-- ==== Sys2Proof/Word.lean ====
section
/-!
DEFINITION. The fixed-width data of the block (00_scope.md R4, R5): bytes, sextets, the 24-bit group, and what the reverse lookup
table says of a character (30_encoding.md R61). Values of the open width `AW` (addresses, counts) are natural numbers below
`2 ^ AW`, as R5 defines a value; the address width itself is a parameter held in State.
-/

namespace Sys2Proof

/-- A character or a data byte, `CW = 8` bits (R4). -/
abbrev Byte := BitVec 8

/-- The value of one Base64 digit, `SXW = 6` bits (R4). -/
abbrev Sextet := BitVec 6

/-- A group: three bytes or four sextets, 24 bits, first element most significant (R57). -/
abbrev Group := BitVec 24

/-- The classification of a character: an entry of `RLUT` (R61). -/
inductive CharClass where
  /-- a data character, with its sextet -/
  | data (v : Sextet)
  /-- the padding character -/
  | pad
  /-- neither; the terminator is one of these (R62) -/
  | notB64
  deriving DecidableEq, Repr

end Sys2Proof
end

