-- ==== Sys2Proof/Config.lean ====
section
/-!
DEFINITION. What the spec leaves open: the address width a reset machine has in this model, and the free values, which have no
body, so that no proof can lean on what they are.
-/

namespace Sys2Proof.Config

/-- The address width of `State.reset`. The spec leaves `AW` open (R4, D2); every state carries its own, and a statement about
every state holds for every width (notes/assumptions/1, DESIGN CHOICE). -/
def resetAddressWidth : Nat := 16

/-- Free values of any width, by draw number: what a register holds after a reset event where the spec says it holds no value
(R27, R125; notes/assumptions/5). -/
opaque freeBits (w : Nat) (draw : Nat) : BitVec w

/-- The free choice among the agents that can step, by draw number: the spec allows any interleaving
(R8; notes/assumptions/6). -/
opaque freeChoice (draw : Nat) : Nat

end Sys2Proof.Config
end

