-- ==== Sys2Proof/Machine/State.lean ====
section
/-!
DEFINITION. Everything the machine holds (10_state.md R10, R13 to R18, R22; 20_memory.md R30), as plain data, and the machine right
after reset (R27, R125). Registers of the open width `AW` are natural numbers; `Safety.lean` says that they stay below `2 ^ AW`.
-/

namespace Sys2Proof.Machine

/-- A run of addresses that no memory backs (20_memory.md R39, R47). -/
structure Hole where
  base : Nat
  size : Nat
  deriving DecidableEq, Repr

/-- The parameters of the block and of its platform, the same in every state of a run: the address width `AW` (R4) and the addresses
no memory backs (R47: "which addresses are backed by memory is the platform's and the caller's business"). -/
structure Platform where
  aw    : Nat
  holes : List Hole
  deriving DecidableEq, Repr

/-- A run of addresses: the first, and how many. -/
structure Span where
  lo  : Nat
  len : Nat
  deriving DecidableEq, Repr

/-- What one operation reads and what it writes (20_memory.md R31). -/
structure Views where
  src : Span
  dst : Span
  deriving DecidableEq, Repr

/-- No buffers. -/
def Views.none : Views where
  src := { lo := 0, len := 0 }
  dst := { lo := 0, len := 0 }

/-- Which access of the group in progress the encoder makes next (20_memory.md R41, R45; notes/assumptions/7), with the bytes it
has read of the group and not yet put into `E.g`. At `read1` no group is in progress. -/
inductive EncPhase where
  /-- read byte 1, or, with no byte left, write the terminator -/
  | read1
  | read2 (a : Byte)
  | read3 (a b : Byte)
  | write1
  | write2
  | write3
  | write4
  deriving DecidableEq, Repr

/-- Which access of the group in progress the decoder makes next (20_memory.md R41, R45; notes/assumptions/7), with the class of
the fourth character where it is still needed (10_state.md R20: "the classifications of the characters fetched so far"). At `read1` no group is in
progress. -/
inductive DecPhase where
  | read1
  | read2
  | write1
  | read3
  | read4
  /-- byte 2, the fourth character being `Pad` (none) or the given sextet -/
  | write2 (d : Option Sextet)
  /-- byte 3, the fourth character being the given sextet -/
  | write3 (d : Sextet)
  deriving DecidableEq, Repr

/-- The encoder unit: working registers (R13), control state (R14), result (R15); the place in the group (R20), and, the model's own,
the buffers of the operation it runs (notes/assumptions/9). -/
structure EncUnit where
  /-- `E.src`, address of the next source byte -/
  src     : Nat
  /-- `E.dst`, address of the next destination byte -/
  dst     : Nat
  /-- `E.rem`, source bytes not yet read -/
  rem     : Nat
  /-- `E.g`, the group register `{a, b, c}` -/
  g       : Group
  busy    : Bool
  done    : Bool
  /-- `E.end`, where the terminator of the last completed `ENCODE` stands -/
  endAddr : Nat
  /-- the next access of the group in progress -/
  phase   : EncPhase
  /-- the buffers of the operation accepted last -/
  bufs    : Views
  deriving DecidableEq, Repr

/-- The decoder unit: working registers (R16), control state (R17), result (R18); the place in the group (R20), and, the model's own,
the buffers of the operation it runs (notes/assumptions/9). -/
structure DecUnit where
  /-- `D.src`, address of the first character of the current group -/
  src     : Nat
  /-- `D.dst`, address of the next destination byte -/
  dst     : Nat
  /-- `D.sh`, the 4-character group shifter -/
  sh      : Group
  /-- `D.k`, characters of the group fetched so far -/
  k       : BitVec 2
  /-- `D.cpad`, the third character was `Pad` -/
  cpad    : Bool
  busy    : Bool
  done    : Bool
  fail    : Bool
  /-- `D.end`, one past the last byte written, 0 on failure -/
  endAddr : Nat
  /-- the next access of the group in progress -/
  phase   : DecPhase
  /-- the buffers of the operation accepted last -/
  bufs    : Views
  deriving DecidableEq, Repr

/-- The input ports, as the host drives them (R22). -/
structure Ports where
  rst      : Bool
  encStart : Bool
  encDest  : Nat
  encSrc   : Nat
  encSize  : Nat
  decStart : Bool
  decDest  : Nat
  decSrc   : Nat
  deriving DecidableEq, Repr

/-- What the host can do to the block and to the memory it owns (60_exceptions.md R119, R123). Reading a port or a byte changes
nothing and is no move. -/
inductive HostMove where
  /-- drive `enc_start` and its three arguments -/
  | driveEnc (start : Bool) (dest src size : Nat)
  /-- drive `dec_start` and its two arguments -/
  | driveDec (start : Bool) (dest src : Nat)
  /-- drive `rst` -/
  | driveRst (level : Bool)
  /-- write a byte of memory -/
  | store (addr : Nat) (v : Byte)
  deriving DecidableEq, Repr

/-- The memory: the bytes that differ from what an unlisted address reads as, by address, rising (Machine/Memory.lean). -/
abbrev Memory := List Host.Cell

/-- The machine. The last five fields are the model's own (INVENTORY.md, "State"). -/
structure State where
  plat     : Platform
  enc      : EncUnit
  dec      : DecUnit
  io       : Ports
  mem      : Memory
  /-- what the last `ALPHA` lookup answered (notes/assumptions/14) -/
  alphaOut : Byte
  /-- what the last `RLUT` lookup answered (notes/assumptions/14) -/
  rlutOut  : CharClass
  /-- the request channel: a record naming one row to run next (notes/assumptions/13) -/
  request  : List Byte
  /-- the host's remaining moves, next one first (notes/assumptions/16) -/
  script   : List HostMove
  /-- how many free values have been drawn (notes/assumptions/5 and 6) -/
  freeIx   : Nat
  deriving DecidableEq, Repr

/-- How the machine stops. -/
inductive Fault where
  /-- A row needs an address that is outside the address space or that no memory backs: it is stuck there (20_memory.md R39, 93 U14).
  Raised by every memory access of a row run by itself, and by `step` when no agent can step because one or more are stuck. Safe: the
  run stops. -/
  | unadmitted (addr : Nat)
  /-- A whole `DECODE` with no terminator in all of memory: an endless run, never a result (70 R133, 93 U2). Raised by `DECODE`. Safe:
  the run stops. -/
  | unterminated
  deriving DecidableEq, Repr

/-- Why something has no meaning. -/
inductive Refusal where
  /-- The row has no meaning in this model yet. Raised by an arm of `exec`. Safe. -/
  | notModelled (mnemonic : String)
  /-- A group action run by itself in a state whose selector does not select it, or in the middle of a group (30_encoding.md R63, R64),
  or `DEC.FETCH(k)` with another `D.k` (R87): the spec gives it no effect there. Raised by these rows. Safe. -/
  | notSelected
  /-- A command whose source or destination view wraps past the top of the address space (20_memory.md R35: "a model should
  refuse"). Raised by `ENCODE`, `DECODE`, `ENC.START` and `DEC.START`. Safe. -/
  | viewWraps
  /-- A command whose source and destination views overlap (20_memory.md R44: "a model should therefore refuse"). Raised by
  `ENCODE`, `DECODE`, `ENC.START` and `DEC.START`. Safe. -/
  | viewsOverlap
  /-- A command whose views meet those of the other unit's running operation, one of them written (93 U4: refuse). Raised by
  `ENCODE`, `DECODE`, `ENC.START` and `DEC.START`. Safe. -/
  | unitsConflict
  /-- The record on the request channel selects no row (30_encoding.md R65 (b)). Raised by `step`. Safe. -/
  | noSuchRow
  deriving DecidableEq, Repr

/-- The two ways an operation can end without a next state. -/
inductive Stop where
  | fault (f : Fault)
  | refusal (r : Refusal)
  deriving DecidableEq, Repr

/-- What an operation answers: a value, or a stop. -/
abbrev Res (α : Type) := Except Stop α

/-- What a meaning answers. -/
abbrev Answer := Host.Outcome State Fault Refusal

/-- The machine right after reset: both units `IDLE` (R27); every register the spec gives no value holds the value that
notes/assumptions/4 names, the address width that of notes/assumptions/1; memory lists nothing. -/
def State.reset : State where
  plat := { aw := Config.resetAddressWidth, holes := [] }
  enc := { src := 0, dst := 0, rem := 0, g := 0#24, busy := false, done := false, endAddr := 0, phase := .read1, bufs := Views.none }
  dec :=
    { src := 0, dst := 0, sh := 0#24, k := 0#2, cpad := false, busy := false, done := false, fail := false, endAddr := 0
      phase := .read1, bufs := Views.none }
  io := { rst := false, encStart := false, encDest := 0, encSrc := 0, encSize := 0, decStart := false, decDest := 0, decSrc := 0 }
  mem := []
  alphaOut := 0#8
  rlutOut := .notB64
  request := []
  script := []
  freeIx := 0

/-! ## Updates of one field -/

def State.withEnc (s : State) (u : EncUnit) : State := { s with enc := u }
def State.withDec (s : State) (u : DecUnit) : State := { s with dec := u }
def State.withIo (s : State) (p : Ports) : State := { s with io := p }
def State.withMem (s : State) (m : Memory) : State := { s with mem := m }
def State.withAlphaOut (s : State) (b : Byte) : State := { s with alphaOut := b }
def State.withRlutOut (s : State) (x : CharClass) : State := { s with rlutOut := x }
def State.withRequest (s : State) (r : List Byte) : State := { s with request := r }
def State.withScript (s : State) (h : List HostMove) : State := { s with script := h }
def State.withFreeIx (s : State) (n : Nat) : State := { s with freeIx := n }

end Sys2Proof.Machine
end

