-- ==== Sys2Proof/Machine/Tables.lean ====
section
/-!
DEFINITION. The two constant tables and the two special characters (10_state.md R11, R12; 30_encoding.md R55, R56, R61, R62). They are
constants: no operation, host action or reset writes them.
-/

namespace Sys2Proof.Machine

/-- The terminator (R56). -/
def NUL : Byte := 0x00#8

/-- The padding character `=` (R56). -/
def PAD : Byte := 0x3D#8

/-- `ALPHA[i]`, the closed form of R55. -/
def alphaAt (i : Sextet) : Byte :=
  let n := i.toNat
  if n ≤ 25 then BitVec.ofNat 8 (0x41 + n)
  else if n ≤ 51 then BitVec.ofNat 8 (0x61 + (n - 26))
  else if n ≤ 61 then BitVec.ofNat 8 (0x30 + (n - 52))
  else if n = 62 then 0x2B#8
  else 0x2F#8

/-- `RLUT[c]`, the ranges of R62. -/
def classify (c : Byte) : CharClass :=
  let n := c.toNat
  if n = 0x2B then .data 62#6
  else if n = 0x2F then .data 63#6
  else if 0x30 ≤ n ∧ n ≤ 0x39 then .data (BitVec.ofNat 6 (52 + (n - 0x30)))
  else if n = 0x3D then .pad
  else if 0x41 ≤ n ∧ n ≤ 0x5A then .data (BitVec.ofNat 6 (n - 0x41))
  else if 0x61 ≤ n ∧ n ≤ 0x7A then .data (BitVec.ofNat 6 (26 + (n - 0x61)))
  else .notB64

/-- `isData` of 00_scope.md R6. -/
def isData : CharClass → Bool
  | .data _ => true
  | .pad => false
  | .notB64 => false

/-- `isPad` of 00_scope.md R6. -/
def isPad : CharClass → Bool
  | .data _ => false
  | .pad => true
  | .notB64 => false

/-- `isNotB64` of 00_scope.md R6. -/
def isNotB64 : CharClass → Bool
  | .data _ => false
  | .pad => false
  | .notB64 => true

/-- The stored form of an `RLUT` entry: bit 7 `nd`, bit 6 `pad`, bits 5 to 0 `val` (R61). -/
def storedForm : CharClass → Byte
  | .data v => v.zeroExtend 8
  | .notB64 => 0x80#8
  | .pad => 0xC0#8

/-- The class code: bits 7 and 6 of the stored form (R61). -/
def classCode (x : CharClass) : BitVec 2 :=
  (storedForm x).extractLsb' 6 2

end Sys2Proof.Machine
end

