-- ==== Sys2Proof/Machine/Operands.lean ====
section
/-!
DEFINITION. Operand assembly: addresses (20_memory.md R35), the 24-bit group and its slices (30_encoding.md R57, R58, R59), the words of
the two action maps (R63, R64).
-/

namespace Sys2Proof.Machine

/-- `p +a k`, address addition modulo `2 ^ AW` (R35; 00_scope.md R6). -/
def addA (aw p k : Nat) : Nat :=
  (p + k) % 2 ^ aw

/-- A value as `AW` port lines carry it (10_state.md R22). -/
def toPort (aw v : Nat) : Nat :=
  v % 2 ^ aw

/-- The group `{a, b, c}` (R57). -/
def joinBytes (a b c : Byte) : Group :=
  a ++ b ++ c

/-- `s0`, group bits 23 to 18 (R57, R58). -/
def sextet0 (g : Group) : Sextet := g.extractLsb' 18 6

/-- `s1`, group bits 17 to 12 (R57, R58). -/
def sextet1 (g : Group) : Sextet := g.extractLsb' 12 6

/-- `s2`, group bits 11 to 6 (R57, R58). -/
def sextet2 (g : Group) : Sextet := g.extractLsb' 6 6

/-- `s3`, group bits 5 to 0 (R57, R58). -/
def sextet3 (g : Group) : Sextet := g.extractLsb' 0 6

/-- The group shifter after one more sextet: `{D.sh[17:0], v}` (41_decoder.md R88). -/
def shiftIn (sh : Group) (v : Sextet) : Group :=
  sh.extractLsb' 0 18 ++ v

/-- Byte 1, `D.sh[11:4]` after two sextets (R59, R91). -/
def byte1 (sh : Group) : Byte := sh.extractLsb' 4 8

/-- Byte 2, `D.sh[9:2]` after three sextets (R59, R97). -/
def byte2 (sh : Group) : Byte := sh.extractLsb' 2 8

/-- Byte 3, `D.sh[7:0]` after four sextets (R59, R99). -/
def byte3 (sh : Group) : Byte := sh.extractLsb' 0 8

/-- `m = min(E.rem, 3)` (R64). -/
def encM (u : EncUnit) : Nat :=
  min u.rem 3

/-- The word of the encoder action map (R64). -/
def encActWord (u : EncUnit) : Byte :=
  BitVec.ofNat 8 (encM u)

/-- The word of the decoder action map, four class codes side by side, first character most significant (R63). -/
def decActWord (a b c d : BitVec 2) : Byte :=
  a ++ b ++ c ++ d

/-- The place of a character that is not fetched. -/
def notFetched : BitVec 2 := 0b00#2

/-- The word of a start port: `{start, busy}` (R71, R86). -/
def startWord (start busy : Bool) : Byte :=
  BitVec.ofNat 8 (2 * start.toNat + busy.toNat)

end Sys2Proof.Machine
end

