-- ==== Sys2Proof/Machine/Flags.lean ====
section
/-!
DEFINITION. Every write of the five flags (10_state.md R21), with the registers the same rule writes, and what the output ports show
(R22, R53; 00_scope.md R9).
-/

namespace Sys2Proof.Machine

/-- `ENC.START`: `E.busy <- 1; E.done <- 0`, the arguments latched (40_encoder.md R71); no group is in progress yet. -/
def EncUnit.accept (u : EncUnit) (p : Ports) (v : Views) : EncUnit :=
  { u with src := p.encSrc, dst := p.encDest, rem := p.encSize, busy := true, done := false, phase := .read1, bufs := v }

/-- `ENC.T0`: `E.end <- E.dst; E.busy <- 0; E.done <- 1` (40_encoder.md R75). -/
def EncUnit.complete (u : EncUnit) : EncUnit :=
  { u with endAddr := u.dst, busy := false, done := true }

/-- `DEC.START`: `D.busy <- 1; D.done <- 0; D.fail <- 0`, the arguments latched, `D.k <- 0` (41_decoder.md R86); no
group is in progress yet. -/
def DecUnit.accept (u : DecUnit) (p : Ports) (v : Views) : DecUnit :=
  { u with src := p.decSrc, dst := p.decDest, k := 0#2, busy := true, done := false, fail := false, phase := .read1, bufs := v }

/-- `finish OK(D.dst)`: `D.end <- D.dst; D.fail <- 0; D.busy <- 0; D.done <- 1` (41_decoder.md R89, R96, R98). -/
def DecUnit.finishOk (u : DecUnit) : DecUnit :=
  { u with endAddr := u.dst, fail := false, busy := false, done := true }

/-- `raise MalformedInput`: `D.end <- 0; D.fail <- 1; D.busy <- 0; D.done <- 1` (60_exceptions.md R113). -/
def DecUnit.malformed (u : DecUnit) : DecUnit :=
  { u with endAddr := 0, fail := true, busy := false, done := true }

/-- The result of an operation (00_scope.md R9). -/
inductive OpResult where
  /-- success, with the end pointer -/
  | ok (endAddr : Nat)
  /-- malformed input, `DECODE` only -/
  | fail
  deriving DecidableEq, Repr

/-- What the encoder's output ports say: a result only while `enc_done = 1` (R15, R24, R53; 93 U10). -/
def encResult (s : State) : Option OpResult :=
  if s.enc.done then some (.ok s.enc.endAddr) else none

/-- What the decoder's output ports say: a result only while `dec_done = 1` (R18, R24, R53; 93 U10). -/
def decResult (s : State) : Option OpResult :=
  if s.dec.done then some (if s.dec.fail then .fail else .ok s.dec.endAddr) else none

end Sys2Proof.Machine
end

