-- ==== Sys2Proof/Machine/Memory.lean ====
section
/-!
DEFINITION. The memory as one canonical list of cells (20_memory.md R30, R32): addresses strictly rising, no cell equal to what an
unlisted address reads as, so that equal memories are equal lists.
-/

namespace Sys2Proof.Machine

/-- What an address that no cell lists reads as. The block contains no memory and the spec gives its contents no value
(notes/assumptions/2, DESIGN CHOICE, unsafe). -/
def Memory.unlisted : Byte := 0x00#8

/-- The byte at an address (R32: a read changes nothing). -/
def Memory.get : Memory → Nat → Byte
  | [], _ => Memory.unlisted
  | (b, v) :: rest, a => if b = a then v else Memory.get rest a

/-- Put a byte in front of cells at higher addresses, unless it is what an unlisted address reads as. -/
def Memory.cons (a : Nat) (v : Byte) (m : Memory) : Memory :=
  if v = Memory.unlisted then m else (a, v) :: m

/-- The memory with the byte at one address replaced (R32: no other byte changes). -/
def Memory.set : Memory → Nat → Byte → Memory
  | [], a, v => Memory.cons a v []
  | (b, w) :: rest, a, v =>
    if a < b then Memory.cons a v ((b, w) :: rest)
    else if a = b then Memory.cons a v rest
    else (b, w) :: Memory.set rest a v

/-- The canonical form: every address above `lo`, strictly rising, no cell that an unlisted address would read as. -/
def Memory.risesFrom : Nat → Memory → Bool
  | _, [] => true
  | lo, (a, v) :: rest => decide (lo ≤ a) && v != Memory.unlisted && Memory.risesFrom (a + 1) rest

/-- The canonical form holds. -/
def Memory.wf (m : Memory) : Bool :=
  Memory.risesFrom 0 m

/-- The cells of a list of bytes from an address upward, written one after the other. -/
def Memory.setAll (aw : Nat) : Memory → Nat → List Byte → Memory
  | m, _, [] => m
  | m, a, v :: rest => Memory.setAll aw (m.set a v) ((a + 1) % 2 ^ aw) rest

end Sys2Proof.Machine
end

