-- ==== Sys2Proof/Machine/Ops.lean ====
section
/-!
DEFINITION. The named operations the meanings are made of: a byte of memory (20_memory.md R32), the table lookups (10_state.md R11,
R12), the decoder's exception (60_exceptions.md R113, R115), reset (70_reset_and_hazards.md R125).
-/

namespace Sys2Proof.Machine

/-! ## Answers -/

/-- A result as an outcome of a step. -/
def answer : Res State → Answer
  | .ok s => .next s
  | .error (.fault f) => .fault f
  | .error (.refusal r) => .refused r

/-- Refuse by name. -/
def refuse {α : Type} (r : Refusal) : Res α :=
  .error (.refusal r)

/-! ## Memory -/

/-- The memory admits an access: the address is in the address space (R30) and some memory backs it (R39, R47). -/
def Platform.admits (p : Platform) (a : Nat) : Bool :=
  decide (a < 2 ^ p.aw) && p.holes.all (fun h => !(decide (h.base ≤ a) && decide (a < h.base + h.size)))

/-- `MemRead(a, 1)` (R32); with no memory there the unit is stuck (R39). -/
def readByte (s : State) (a : Nat) : Res Byte :=
  if s.plat.admits a then .ok (s.mem.get a) else .error (.fault (.unadmitted a))

/-- `MemWrite(a, 1, v)` (R32); with no memory there the unit is stuck (R39). -/
def writeByte (s : State) (a : Nat) (v : Byte) : Res State :=
  if s.plat.admits a then .ok (s.withMem (s.mem.set a v)) else .error (.fault (.unadmitted a))

/-- `p +a k` at this machine's width (R35). -/
def State.addr (s : State) (p k : Nat) : Nat :=
  addA s.plat.aw p k

/-! ## Table lookups -/

/-- The alphabet table answers a character code (R11). -/
def alphaAnswers (s : State) (c : Byte) : State :=
  s.withAlphaOut c

/-- The reverse lookup table answers a classification (R12). -/
def rlutAnswers (s : State) (x : CharClass) : State :=
  s.withRlutOut x

/-- `MemWrite(a, 1, ALPHA[v])`: look the sextet up and write the character (40_encoder.md R72). -/
def writeSextet (s : State) (a : Nat) (v : Sextet) : Res State :=
  writeByte (alphaAnswers s (alphaAt v)) a (alphaAt v)

/-! ## The decoder's two ends -/

/-- `finish OK(D.dst)` (41_decoder.md R89, R96, R98). -/
def finishOk (s : State) : State :=
  s.withDec s.dec.finishOk

/-- Taking the one exception, `raise MalformedInput` (60_exceptions.md R113, R115): nothing is saved, no control is transferred, the
decoder goes to `DONE` with the failure flag, the working registers and the memory keep what they hold. Nothing returns from it: the
next `DEC.START` clears it (R116). -/
def raiseMalformed (s : State) : State :=
  s.withDec s.dec.malformed

/-! ## Reset -/

/-- The encoder after a reset event: flags 0, no access in progress, every other register a free value (R27, R125;
notes/assumptions/5). -/
def EncUnit.afterReset (aw draw : Nat) : EncUnit where
  src := (Config.freeBits aw draw).toNat
  dst := (Config.freeBits aw (draw + 1)).toNat
  rem := (Config.freeBits aw (draw + 2)).toNat
  g := Config.freeBits 24 (draw + 3)
  busy := false
  done := false
  endAddr := (Config.freeBits aw (draw + 4)).toNat
  phase := .read1
  bufs := Views.none

/-- The decoder after a reset event: flags 0, no access in progress, every other register a free value (R27, R125;
notes/assumptions/5). -/
def DecUnit.afterReset (aw draw : Nat) : DecUnit where
  src := (Config.freeBits aw draw).toNat
  dst := (Config.freeBits aw (draw + 1)).toNat
  sh := Config.freeBits 24 (draw + 2)
  k := Config.freeBits 2 (draw + 3)
  cpad := Config.freeBits 1 (draw + 4) == 1#1
  busy := false
  done := false
  fail := false
  endAddr := (Config.freeBits aw (draw + 5)).toNat
  phase := .read1
  bufs := Views.none

/-- How many free values one reset event draws. -/
def resetDraws : Nat := 11

/-- The reset event: both units forced to the reset state, while `rst = 1`, and a command presented at the same time lost. The accesses
a running operation has already performed stay performed, no further one is made, and tables and memory are untouched (R125, R126). -/
def forceReset (s : State) : State :=
  (((s.withEnc (EncUnit.afterReset s.plat.aw s.freeIx)).withDec (DecUnit.afterReset s.plat.aw (s.freeIx + 5))).withRequest
    []).withFreeIx (s.freeIx + resetDraws)

end Sys2Proof.Machine
end

