-- ==== Sys2Proof/Machine/AlphaRows.lean ====
section
/-!
DEFINITION. The 64 rows of the alphabet table `ALPHA` (30_encoding.md R55), one meaning each, run by itself: the table answers the
row's character code. The codes are those of opcode_table.json's rows, written out one by one; Machine/Tables.lean has the
closed form of R55 that the encoder's lookups use, and an obligation says that the two agree.
-/

namespace Sys2Proof.Machine

/-- `ALPHA[0]`, the character `A` (R55). -/
def execAlpha0 (s : State) : Answer :=
  answer (.ok (alphaAnswers s 0x41#8))

/-- `ALPHA[1]`, the character `B` (R55). -/
def execAlpha1 (s : State) : Answer :=
  answer (.ok (alphaAnswers s 0x42#8))

/-- `ALPHA[2]`, the character `C` (R55). -/
def execAlpha2 (s : State) : Answer :=
  answer (.ok (alphaAnswers s 0x43#8))

/-- `ALPHA[3]`, the character `D` (R55). -/
def execAlpha3 (s : State) : Answer :=
  answer (.ok (alphaAnswers s 0x44#8))

/-- `ALPHA[4]`, the character `E` (R55). -/
def execAlpha4 (s : State) : Answer :=
  answer (.ok (alphaAnswers s 0x45#8))

/-- `ALPHA[5]`, the character `F` (R55). -/
def execAlpha5 (s : State) : Answer :=
  answer (.ok (alphaAnswers s 0x46#8))

/-- `ALPHA[6]`, the character `G` (R55). -/
def execAlpha6 (s : State) : Answer :=
  answer (.ok (alphaAnswers s 0x47#8))

/-- `ALPHA[7]`, the character `H` (R55). -/
def execAlpha7 (s : State) : Answer :=
  answer (.ok (alphaAnswers s 0x48#8))

/-- `ALPHA[8]`, the character `I` (R55). -/
def execAlpha8 (s : State) : Answer :=
  answer (.ok (alphaAnswers s 0x49#8))

/-- `ALPHA[9]`, the character `J` (R55). -/
def execAlpha9 (s : State) : Answer :=
  answer (.ok (alphaAnswers s 0x4A#8))

/-- `ALPHA[10]`, the character `K` (R55). -/
def execAlpha10 (s : State) : Answer :=
  answer (.ok (alphaAnswers s 0x4B#8))

/-- `ALPHA[11]`, the character `L` (R55). -/
def execAlpha11 (s : State) : Answer :=
  answer (.ok (alphaAnswers s 0x4C#8))

/-- `ALPHA[12]`, the character `M` (R55). -/
def execAlpha12 (s : State) : Answer :=
  answer (.ok (alphaAnswers s 0x4D#8))

/-- `ALPHA[13]`, the character `N` (R55). -/
def execAlpha13 (s : State) : Answer :=
  answer (.ok (alphaAnswers s 0x4E#8))

/-- `ALPHA[14]`, the character `O` (R55). -/
def execAlpha14 (s : State) : Answer :=
  answer (.ok (alphaAnswers s 0x4F#8))

/-- `ALPHA[15]`, the character `P` (R55). -/
def execAlpha15 (s : State) : Answer :=
  answer (.ok (alphaAnswers s 0x50#8))

/-- `ALPHA[16]`, the character `Q` (R55). -/
def execAlpha16 (s : State) : Answer :=
  answer (.ok (alphaAnswers s 0x51#8))

/-- `ALPHA[17]`, the character `R` (R55). -/
def execAlpha17 (s : State) : Answer :=
  answer (.ok (alphaAnswers s 0x52#8))

/-- `ALPHA[18]`, the character `S` (R55). -/
def execAlpha18 (s : State) : Answer :=
  answer (.ok (alphaAnswers s 0x53#8))

/-- `ALPHA[19]`, the character `T` (R55). -/
def execAlpha19 (s : State) : Answer :=
  answer (.ok (alphaAnswers s 0x54#8))

/-- `ALPHA[20]`, the character `U` (R55). -/
def execAlpha20 (s : State) : Answer :=
  answer (.ok (alphaAnswers s 0x55#8))

/-- `ALPHA[21]`, the character `V` (R55). -/
def execAlpha21 (s : State) : Answer :=
  answer (.ok (alphaAnswers s 0x56#8))

/-- `ALPHA[22]`, the character `W` (R55). -/
def execAlpha22 (s : State) : Answer :=
  answer (.ok (alphaAnswers s 0x57#8))

/-- `ALPHA[23]`, the character `X` (R55). -/
def execAlpha23 (s : State) : Answer :=
  answer (.ok (alphaAnswers s 0x58#8))

/-- `ALPHA[24]`, the character `Y` (R55). -/
def execAlpha24 (s : State) : Answer :=
  answer (.ok (alphaAnswers s 0x59#8))

/-- `ALPHA[25]`, the character `Z` (R55). -/
def execAlpha25 (s : State) : Answer :=
  answer (.ok (alphaAnswers s 0x5A#8))

/-- `ALPHA[26]`, the character `a` (R55). -/
def execAlpha26 (s : State) : Answer :=
  answer (.ok (alphaAnswers s 0x61#8))

/-- `ALPHA[27]`, the character `b` (R55). -/
def execAlpha27 (s : State) : Answer :=
  answer (.ok (alphaAnswers s 0x62#8))

/-- `ALPHA[28]`, the character `c` (R55). -/
def execAlpha28 (s : State) : Answer :=
  answer (.ok (alphaAnswers s 0x63#8))

/-- `ALPHA[29]`, the character `d` (R55). -/
def execAlpha29 (s : State) : Answer :=
  answer (.ok (alphaAnswers s 0x64#8))

/-- `ALPHA[30]`, the character `e` (R55). -/
def execAlpha30 (s : State) : Answer :=
  answer (.ok (alphaAnswers s 0x65#8))

/-- `ALPHA[31]`, the character `f` (R55). -/
def execAlpha31 (s : State) : Answer :=
  answer (.ok (alphaAnswers s 0x66#8))

/-- `ALPHA[32]`, the character `g` (R55). -/
def execAlpha32 (s : State) : Answer :=
  answer (.ok (alphaAnswers s 0x67#8))

/-- `ALPHA[33]`, the character `h` (R55). -/
def execAlpha33 (s : State) : Answer :=
  answer (.ok (alphaAnswers s 0x68#8))

/-- `ALPHA[34]`, the character `i` (R55). -/
def execAlpha34 (s : State) : Answer :=
  answer (.ok (alphaAnswers s 0x69#8))

/-- `ALPHA[35]`, the character `j` (R55). -/
def execAlpha35 (s : State) : Answer :=
  answer (.ok (alphaAnswers s 0x6A#8))

/-- `ALPHA[36]`, the character `k` (R55). -/
def execAlpha36 (s : State) : Answer :=
  answer (.ok (alphaAnswers s 0x6B#8))

/-- `ALPHA[37]`, the character `l` (R55). -/
def execAlpha37 (s : State) : Answer :=
  answer (.ok (alphaAnswers s 0x6C#8))

/-- `ALPHA[38]`, the character `m` (R55). -/
def execAlpha38 (s : State) : Answer :=
  answer (.ok (alphaAnswers s 0x6D#8))

/-- `ALPHA[39]`, the character `n` (R55). -/
def execAlpha39 (s : State) : Answer :=
  answer (.ok (alphaAnswers s 0x6E#8))

/-- `ALPHA[40]`, the character `o` (R55). -/
def execAlpha40 (s : State) : Answer :=
  answer (.ok (alphaAnswers s 0x6F#8))

/-- `ALPHA[41]`, the character `p` (R55). -/
def execAlpha41 (s : State) : Answer :=
  answer (.ok (alphaAnswers s 0x70#8))

/-- `ALPHA[42]`, the character `q` (R55). -/
def execAlpha42 (s : State) : Answer :=
  answer (.ok (alphaAnswers s 0x71#8))

/-- `ALPHA[43]`, the character `r` (R55). -/
def execAlpha43 (s : State) : Answer :=
  answer (.ok (alphaAnswers s 0x72#8))

/-- `ALPHA[44]`, the character `s` (R55). -/
def execAlpha44 (s : State) : Answer :=
  answer (.ok (alphaAnswers s 0x73#8))

/-- `ALPHA[45]`, the character `t` (R55). -/
def execAlpha45 (s : State) : Answer :=
  answer (.ok (alphaAnswers s 0x74#8))

/-- `ALPHA[46]`, the character `u` (R55). -/
def execAlpha46 (s : State) : Answer :=
  answer (.ok (alphaAnswers s 0x75#8))

/-- `ALPHA[47]`, the character `v` (R55). -/
def execAlpha47 (s : State) : Answer :=
  answer (.ok (alphaAnswers s 0x76#8))

/-- `ALPHA[48]`, the character `w` (R55). -/
def execAlpha48 (s : State) : Answer :=
  answer (.ok (alphaAnswers s 0x77#8))

/-- `ALPHA[49]`, the character `x` (R55). -/
def execAlpha49 (s : State) : Answer :=
  answer (.ok (alphaAnswers s 0x78#8))

/-- `ALPHA[50]`, the character `y` (R55). -/
def execAlpha50 (s : State) : Answer :=
  answer (.ok (alphaAnswers s 0x79#8))

/-- `ALPHA[51]`, the character `z` (R55). -/
def execAlpha51 (s : State) : Answer :=
  answer (.ok (alphaAnswers s 0x7A#8))

/-- `ALPHA[52]`, the character `0` (R55). -/
def execAlpha52 (s : State) : Answer :=
  answer (.ok (alphaAnswers s 0x30#8))

/-- `ALPHA[53]`, the character `1` (R55). -/
def execAlpha53 (s : State) : Answer :=
  answer (.ok (alphaAnswers s 0x31#8))

/-- `ALPHA[54]`, the character `2` (R55). -/
def execAlpha54 (s : State) : Answer :=
  answer (.ok (alphaAnswers s 0x32#8))

/-- `ALPHA[55]`, the character `3` (R55). -/
def execAlpha55 (s : State) : Answer :=
  answer (.ok (alphaAnswers s 0x33#8))

/-- `ALPHA[56]`, the character `4` (R55). -/
def execAlpha56 (s : State) : Answer :=
  answer (.ok (alphaAnswers s 0x34#8))

/-- `ALPHA[57]`, the character `5` (R55). -/
def execAlpha57 (s : State) : Answer :=
  answer (.ok (alphaAnswers s 0x35#8))

/-- `ALPHA[58]`, the character `6` (R55). -/
def execAlpha58 (s : State) : Answer :=
  answer (.ok (alphaAnswers s 0x36#8))

/-- `ALPHA[59]`, the character `7` (R55). -/
def execAlpha59 (s : State) : Answer :=
  answer (.ok (alphaAnswers s 0x37#8))

/-- `ALPHA[60]`, the character `8` (R55). -/
def execAlpha60 (s : State) : Answer :=
  answer (.ok (alphaAnswers s 0x38#8))

/-- `ALPHA[61]`, the character `9` (R55). -/
def execAlpha61 (s : State) : Answer :=
  answer (.ok (alphaAnswers s 0x39#8))

/-- `ALPHA[62]`, the character `+` (R55). -/
def execAlpha62 (s : State) : Answer :=
  answer (.ok (alphaAnswers s 0x2B#8))

/-- `ALPHA[63]`, the character `/` (R55). -/
def execAlpha63 (s : State) : Answer :=
  answer (.ok (alphaAnswers s 0x2F#8))

end Sys2Proof.Machine
end

