-- ==== Sys2Proof/Machine/Contract.lean ====
section
/-!
DEFINITION. The four buffer views of an operation (20_memory.md R31) and what the caller guarantees of them before a command
(70_reset_and_hazards.md R128, R129, R130; 20_memory.md R35, R44), as far as the machine can see it.
-/

namespace Sys2Proof.Machine

/-- A run of ascending addresses below `2 ^ AW` (R35). -/
def Span.fits (aw : Nat) (v : Span) : Bool :=
  decide (v.lo + v.len ≤ 2 ^ aw)

/-- The two runs have an address in common. -/
def Span.meets (v w : Span) : Bool :=
  decide (0 < v.len) && decide (0 < w.len) && decide (v.lo < w.lo + w.len) && decide (w.lo < v.lo + v.len)

/-- `SRC_E` and `DST_E`: `size` bytes, and `4 * ceil(size / 3) + 1` bytes (R31). -/
def encViews (dest src size : Nat) : Views :=
  { src := { lo := src, len := size }, dst := { lo := dest, len := 4 * ((size + 2) / 3) + 1 } }

/-- `SRC_D` and `DST_D` for a string of `n` characters: `n + 1` bytes, and `3 * ceil(n / 4)` bytes (R31). -/
def decViews (dest src n : Nat) : Views :=
  { src := { lo := src, len := n + 1 }, dst := { lo := dest, len := 3 * ((n + 3) / 4) } }

/-- The characters before the first terminator among the next `fuel` addresses, address arithmetic wrapping (R35). The count goes by
the bytes of the state's memory alone: an address that no memory backs counts as what it would read as (notes/assumptions/27, DESIGN
CHOICE). -/
def countToNul (m : Memory) (aw : Nat) : Nat → Nat → Option Nat
  | 0, _ => none
  | fuel + 1, a => if m.get a = NUL then some 0 else (countToNul m aw fuel (addA aw a 1)).map (fun n => n + 1)

/-- `n` of R31: the characters of the string at `a` before its first terminator, none if no address of the space holds one. A string
past the top goes on at address 0 (R35), and addresses that no memory backs are counted through (notes/assumptions/27, DESIGN CHOICE):
`n` serves the premise of a command alone, and what the operation then reads it reads through `readByte`. -/
def strLen (s : State) (a : Nat) : Option Nat :=
  countToNul s.mem s.plat.aw (2 ^ s.plat.aw) (s.addr a 0)

/-- One of the two operations writes what the other reads or writes (R130). -/
def Views.conflict (v w : Views) : Bool :=
  v.dst.meets w.dst || v.dst.meets w.src || v.src.meets w.dst

/-- The buffers of the encoder's running operation, all of them as long as it is `BUSY` (R130). -/
def encRunning (s : State) : Option Views :=
  if s.enc.busy then some s.enc.bufs else none

/-- The buffers of the decoder's running operation, all of them as long as it is `BUSY` (R130). -/
def decRunning (s : State) : Option Views :=
  if s.dec.busy then some s.dec.bufs else none

/-- All of memory, which a `DECODE` with no terminator may read and write (R133). -/
def everything (aw : Nat) : Views where
  src := { lo := 0, len := 2 ^ aw }
  dst := { lo := 0, len := 2 ^ aw }

/-- The other unit's running operation has none of these buffers to itself (R130, 93 U4). -/
def checkUnits (s : State) (v : Views) (other : Option Views) : Res State :=
  if other.any (fun w => v.conflict w) then refuse .unitsConflict else .ok s

/-- The launch premise of a command: neither view wraps (R35), they do not overlap (R44, R130), and the other unit's running
operation does not conflict with them (R130, 93 U4). Outside it the model refuses, as those rules say a model should. -/
def checkViews (s : State) (v : Views) (other : Option Views) : Res State :=
  if !(v.src.fits s.plat.aw && v.dst.fits s.plat.aw) then refuse .viewWraps
  else if v.src.meets v.dst then refuse .viewsOverlap
  else checkUnits s v other

end Sys2Proof.Machine
end

