-- ==== Sys2Proof/Machine/DecoderSub.lean ====
section
/-!
DEFINITION. The decoder's sub-operations `DEC.FETCH`, `DEC.SHIFT`, `DEC.EMIT1`, `DEC.EMIT2` (41_decoder.md R87, R88, R91, R97), which the group
actions of Machine/Decoder.lean are made of, and their meanings as rows run by themselves (notes/assumptions/22).
-/

namespace Sys2Proof.Machine

/-! ## Bodies -/

/-- The registers after `DEC.FETCH(k)` of a character of class `x`: the character counter, and `D.cpad` for the third character (R87).
The classification it returns is `rlutOut`. -/
def fetched (k : Nat) (x : CharClass) (s : State) : State :=
  (rlutAnswers s x).withDec { s.dec with
    k := BitVec.ofNat 2 (k + 1)
    cpad := if k = 2 then isPad x else s.dec.cpad }

/-- `DEC.FETCH(k)`: read and classify (R87). -/
def fetch (k : Nat) (s : State) : Res State := do
  let ch ← readByte s (s.addr s.dec.src k)
  .ok (fetched k (classify ch) s)

/-- `DEC.SHIFT(v)` (R88). -/
def shift (v : Sextet) (s : State) : State :=
  s.withDec { s.dec with sh := shiftIn s.dec.sh v }

/-- `D.dst <- D.dst +a 1`. -/
def dstAdvanced (s : State) : State :=
  s.withDec { s.dec with dst := s.addr s.dec.dst 1 }

/-- Write one byte and move the destination pointer: `MemWrite(D.dst, 1, v); D.dst <- D.dst +a 1`. -/
def emit (v : Byte) (s : State) : Res State := do
  let s ← writeByte s s.dec.dst v
  .ok (dstAdvanced s)

/-- `DEC.EMIT1`: byte 1 is `D.sh[11:4]` (R91). -/
def emit1 (s : State) : Res State :=
  emit (byte1 s.dec.sh) s

/-- `DEC.EMIT2`: byte 2 is `D.sh[9:2]` (R97). -/
def emit2 (s : State) : Res State :=
  emit (byte2 s.dec.sh) s

/-! ## Meanings -/

/-- `DEC.FETCH(k)` (R87); its index field is `D.k`, so with any other `k` it is not selected (opcode_table.json; precondition of R87). -/
def execDecFetch (k : Nat) (s : State) : Answer :=
  answer (if k = s.dec.k.toNat then fetch k s else refuse .notSelected)

/-- `DEC.SHIFT(v)` (R88). -/
def execDecShift (v : Sextet) (s : State) : Answer :=
  answer (.ok (shift v s))

/-- `DEC.EMIT1` (R91). -/
def execDecEmit1 (s : State) : Answer :=
  answer (emit1 s)

/-- `DEC.EMIT2` (R97). -/
def execDecEmit2 (s : State) : Answer :=
  answer (emit2 s)

end Sys2Proof.Machine
end

