-- ==== Sys2Proof/Machine/Decoder.lean ====
section
/-!
DEFINITION. The decoder unit at the step level: `DEC.START` and the nine group actions (41_decoder.md R86, R89, R90, R92 to R96, R98, R99). The
actions share prefixes, because a group's action is decided while its characters are fetched, in one fixed order (60_exceptions.md R114);
an action whose characters are of other classes is not the one selected (30_encoding.md R63).
-/

namespace Sys2Proof.Machine

/-! ## Bodies -/

/-- The buffers of the command on the ports (20_memory.md R31), all of memory where the string has no terminator (R133). -/
def decCommandViews (s : State) : Views :=
  match strLen s s.io.decSrc with
  | none => everything s.plat.aw
  | some n => decViews s.io.decDest s.io.decSrc n

/-- Latch a command (R86). -/
def decLatch (s : State) : State :=
  s.withDec (s.dec.accept s.io (decCommandViews s))

/-- Accept the command on the ports. The block rejects no argument value (R86); a command outside the caller's contract the model
refuses (20_memory.md R35, R44; 93 U3, U4, U12; notes/assumptions/8 and 9). A string with no terminator has no view to check: the
operation is started, and runs without end unless some character ends it (70_reset_and_hazards.md R133). -/
def decAccept (s : State) : Res State := do
  let s ←
    match strLen s s.io.decSrc with
    | none => checkUnits s (decCommandViews s) (encRunning s)
    | some _ => checkViews s (decCommandViews s) (encRunning s)
  .ok (decLatch s)

/-- Fetch character `k`, which must be a data character, and shift its sextet in. -/
def fetchData (k : Nat) (s : State) : Res State := do
  let s ← fetch k s
  match s.rlutOut with
  | .data v => .ok (shift v s)
  | .pad => refuse .notSelected
  | .notB64 => refuse .notSelected

/-- Fetch character `k`, which must have the given class test; nothing is shifted in. -/
def fetchThat (k : Nat) (p : CharClass → Bool) (s : State) : Res State := do
  let s ← fetch k s
  if p s.rlutOut then .ok s else refuse .notSelected

/-- The prefix `D D`: two data characters, then byte 1 (R91). -/
def decTwo (s : State) : Res State := do
  let s ← fetchData 0 s
  let s ← fetchData 1 s
  emit1 s

/-- The prefix `D D D`. -/
def decThree (s : State) : Res State := do
  let s ← decTwo s
  fetchData 2 s

/-- The prefix `D D P`. -/
def decTwoPad (s : State) : Res State := do
  let s ← decTwo s
  fetchThat 2 isPad s

/-- Byte 3 and the advance of a full group: `MemWrite(D.dst, 1, D.sh[7:0]); D.dst <- D.dst +a 1; D.src <- D.src +a 4` (R99). -/
def decByte3 (s : State) : Res State := do
  let s ← emit (byte3 s.dec.sh) s
  .ok (s.withDec { s.dec with src := s.addr s.dec.src 4 })

/-- Run a group action while `D.busy = 1` (R63), with no group in progress (notes/assumptions/15). -/
def whenDecBusy (s : State) (body : State → Res State) : Res State :=
  if s.dec.busy && s.dec.phase == .read1 then body s else refuse .notSelected

/-- `N - - -` or `P - - -` (R89). -/
def decEnd0 (s : State) : Res State := do
  let s ← fetchThat 0 (fun x => !isData x) s
  .ok (finishOk s)

/-- `D N - -` or `D P - -` (R90). -/
def decFailB (s : State) : Res State := do
  let s ← fetchData 0 s
  let s ← fetchThat 1 (fun x => !isData x) s
  .ok (raiseMalformed s)

/-- `D D N -` (R92). -/
def decFailC (s : State) : Res State := do
  let s ← decTwo s
  let s ← fetchThat 2 isNotB64 s
  .ok (raiseMalformed s)

/-- `D D D N` (R93). -/
def decFailD (s : State) : Res State := do
  let s ← decThree s
  let s ← fetchThat 3 isNotB64 s
  .ok (raiseMalformed s)

/-- `D D P N` (R94). -/
def decFailDP (s : State) : Res State := do
  let s ← decTwoPad s
  let s ← fetchThat 3 isNotB64 s
  .ok (raiseMalformed s)

/-- `D D P D` (R95); the fourth sextet is not shifted in. -/
def decFailPD (s : State) : Res State := do
  let s ← decTwoPad s
  let s ← fetchThat 3 isData s
  .ok (raiseMalformed s)

/-- `D D P P` (R96). -/
def decEnd1 (s : State) : Res State := do
  let s ← decTwoPad s
  let s ← fetchThat 3 isPad s
  .ok (finishOk s)

/-- `D D D P` (R98). -/
def decEnd2 (s : State) : Res State := do
  let s ← decThree s
  let s ← fetchThat 3 isPad s
  let s ← emit2 s
  .ok (finishOk s)

/-- `D D D D` (R99); the fourth sextet is shifted in after byte 2. -/
def decFull (s : State) : Res State := do
  let s ← decThree s
  let s ← fetch 3 s
  match s.rlutOut with
  | .data v => do
    let s ← emit2 s
    decByte3 (shift v s)
  | .pad => refuse .notSelected
  | .notB64 => refuse .notSelected

/-! ## The selector's word -/

/-- The class codes of the decoder's next group, fetched one by one up to the character that decides, byte 1 written before the third
fetch (R63, R114; 20_memory.md R41). Nothing of it stays: the word says which of the nine rows
the group, run by itself, is. -/
def decGroupWord (s : State) : Res Byte := do
  let s ← fetch 0 s
  let a := s.rlutOut
  match a with
  | .pad => .ok (decActWord (classCode a) notFetched notFetched notFetched)
  | .notB64 => .ok (decActWord (classCode a) notFetched notFetched notFetched)
  | .data va => do
    let s ← fetch 1 (shift va s)
    let b := s.rlutOut
    match b with
    | .pad => .ok (decActWord (classCode a) (classCode b) notFetched notFetched)
    | .notB64 => .ok (decActWord (classCode a) (classCode b) notFetched notFetched)
    | .data vb => do
      let s ← emit1 (shift vb s)
      let s ← fetch 2 s
      let c := s.rlutOut
      if isNotB64 c then .ok (decActWord (classCode a) (classCode b) (classCode c) notFetched)
      else do
        let s ← fetch 3 s
        .ok (decActWord (classCode a) (classCode b) (classCode c) (classCode s.rlutOut))

/-! ## Meanings -/

/-- `DEC.START` (R86): with `dec_start = 1` and `D.busy = 0` the command is accepted; any other value of the pair changes nothing. -/
def execDecStart (s : State) : Answer :=
  answer (if s.io.decStart && !s.dec.busy then decAccept s else .ok s)

/-- `DEC.END0` (R89). -/
def execDecEnd0 (s : State) : Answer :=
  answer (whenDecBusy s decEnd0)

/-- `DEC.FAIL_B` (R90). -/
def execDecFailB (s : State) : Answer :=
  answer (whenDecBusy s decFailB)

/-- `DEC.FAIL_C` (R92). -/
def execDecFailC (s : State) : Answer :=
  answer (whenDecBusy s decFailC)

/-- `DEC.FAIL_D` (R93). -/
def execDecFailD (s : State) : Answer :=
  answer (whenDecBusy s decFailD)

/-- `DEC.FAIL_DP` (R94). -/
def execDecFailDP (s : State) : Answer :=
  answer (whenDecBusy s decFailDP)

/-- `DEC.FAIL_PD` (R95). -/
def execDecFailPD (s : State) : Answer :=
  answer (whenDecBusy s decFailPD)

/-- `DEC.END1` (R96). -/
def execDecEnd1 (s : State) : Answer :=
  answer (whenDecBusy s decEnd1)

/-- `DEC.END2` (R98). -/
def execDecEnd2 (s : State) : Answer :=
  answer (whenDecBusy s decEnd2)

/-- `DEC.FULL` (R99). -/
def execDecFull (s : State) : Answer :=
  answer (whenDecBusy s decFull)

end Sys2Proof.Machine
end

