-- ==== Sys2Proof/Machine/Encoder.lean ====
section
/-!
DEFINITION. The encoder unit at the step level: `ENC.START`, `ENC.G3`, `ENC.T2`, `ENC.T1`, `ENC.T0` (40_encoder.md R71 to R75). Each group
action's body is shared with the whole operation (Machine/Command.lean).
-/

namespace Sys2Proof.Machine

/-! ## Bodies -/

/-- The buffers of the command on the ports (20_memory.md R31). -/
def encCommandViews (s : State) : Views :=
  encViews s.io.encDest s.io.encSrc s.io.encSize

/-- Latch a command (R71). -/
def encLatch (s : State) : State :=
  s.withEnc (s.enc.accept s.io (encCommandViews s))

/-- Accept the command on the ports. The block rejects no argument value (R71); a command outside the caller's contract the model
refuses (20_memory.md R35, R44; 93 U3, U4, U12; notes/assumptions/8 and 9). -/
def encAccept (s : State) : Res State := do
  let s ← checkViews s (encCommandViews s) (decRunning s)
  .ok (encLatch s)

/-- `E.g <- {a, b, c}`. -/
def setGroup (s : State) (g : Group) : State :=
  s.withEnc { s.enc with g := g }

/-- `E.src <- E.src +a n; E.dst <- E.dst +a 4; E.rem <- r`. -/
def encAdvance (s : State) (n r : Nat) : State :=
  s.withEnc { s.enc with src := s.addr s.enc.src n, dst := s.addr s.enc.dst 4, rem := r }

/-- `ENC.G3`: three reads, then four characters (R72). -/
def encGroup (s : State) : Res State := do
  let a ← readByte s s.enc.src
  let b ← readByte s (s.addr s.enc.src 1)
  let c ← readByte s (s.addr s.enc.src 2)
  let g := joinBytes a b c
  let s ← writeSextet (setGroup s g) s.enc.dst (sextet0 g)
  let s ← writeSextet s (s.addr s.enc.dst 1) (sextet1 g)
  let s ← writeSextet s (s.addr s.enc.dst 2) (sextet2 g)
  let s ← writeSextet s (s.addr s.enc.dst 3) (sextet3 g)
  .ok (encAdvance s 3 (s.enc.rem - 3))

/-- `ENC.T2`: two reads, three characters, `=` (R73). The third byte is the constant 0 and is not read. -/
def encTail2 (s : State) : Res State := do
  let a ← readByte s s.enc.src
  let b ← readByte s (s.addr s.enc.src 1)
  let g := joinBytes a b 0#8
  let s ← writeSextet (setGroup s g) s.enc.dst (sextet0 g)
  let s ← writeSextet s (s.addr s.enc.dst 1) (sextet1 g)
  let s ← writeSextet s (s.addr s.enc.dst 2) (sextet2 g)
  let s ← writeByte s (s.addr s.enc.dst 3) PAD
  .ok (encAdvance s 2 0)

/-- `ENC.T1`: one read, two characters, `=`, `=` (R74). The second and third bytes are the constant 0 and are not read. -/
def encTail1 (s : State) : Res State := do
  let a ← readByte s s.enc.src
  let g := joinBytes a 0#8 0#8
  let s ← writeSextet (setGroup s g) s.enc.dst (sextet0 g)
  let s ← writeSextet s (s.addr s.enc.dst 1) (sextet1 g)
  let s ← writeByte s (s.addr s.enc.dst 2) PAD
  let s ← writeByte s (s.addr s.enc.dst 3) PAD
  .ok (encAdvance s 1 0)

/-- `ENC.T0`: the terminator, then the result; `E.done` becomes 1 after the write (R75). -/
def encFinish (s : State) : Res State := do
  let s ← writeByte s s.enc.dst NUL
  .ok (s.withEnc s.enc.complete)

/-- Run a group action where the encoder action map selects it: `E.busy = 1` and `min(E.rem, 3) = m` (R64), with no group in
progress (notes/assumptions/15). -/
def whenEncSelects (m : Nat) (s : State) (body : State → Res State) : Res State :=
  if s.enc.busy && s.enc.phase == .read1 && encM s.enc == m then body s else refuse .notSelected

/-! ## Meanings -/

/-- `ENC.START` (R71): with `enc_start = 1` and `E.busy = 0` the command is accepted; any other value of the pair changes nothing. -/
def execEncStart (s : State) : Answer :=
  answer (if s.io.encStart && !s.enc.busy then encAccept s else .ok s)

/-- `ENC.G3` (R72). -/
def execEncG3 (s : State) : Answer :=
  answer (whenEncSelects 3 s encGroup)

/-- `ENC.T2` (R73). -/
def execEncT2 (s : State) : Answer :=
  answer (whenEncSelects 2 s encTail2)

/-- `ENC.T1` (R74). -/
def execEncT1 (s : State) : Answer :=
  answer (whenEncSelects 1 s encTail1)

/-- `ENC.T0` (R75). -/
def execEncT0 (s : State) : Answer :=
  answer (whenEncSelects 0 s encFinish)

end Sys2Proof.Machine
end

