-- ==== Sys2Proof/Machine/Command.lean ====
section
/-!
DEFINITION. The two whole operations at the function level, one atomic transition each (00_scope.md R7; 40_encoder.md R70; 41_decoder.md
R85): the arguments on the ports, to the result and the memory after. A command to a busy unit is ignored (R71, R86).
-/

namespace Sys2Proof.Machine

/-! ## ENCODE -/

/-- The loop of R70: `n` full groups. -/
def encGroups : Nat → State → Res State
  | 0, s => .ok s
  | n + 1, s => do
    let s ← encGroup s
    encGroups n s

/-- The tail of R70: two bytes, one byte or none. -/
def encTail (s : State) : Res State :=
  if s.enc.rem = 2 then encTail2 s
  else if s.enc.rem = 1 then encTail1 s
  else .ok s

/-- R70 from its first line to `finish OK(d)`, with `s`, `d`, `rem` in `E.src`, `E.dst`, `E.rem` (R81). -/
def encodeWhole (s : State) : Res State := do
  let s ← encGroups (s.enc.rem / 3) s
  let s ← encTail s
  encFinish s

/-- `ENCODE(dest, src, size)` (R70). -/
def execEncode (s : State) : Answer :=
  answer (if s.enc.busy then .ok s
    else do
      let s ← encAccept s
      encodeWhole s)

/-! ## DECODE -/

/-- One pass of the loop of R85, line for line; the flag says whether the operation goes on with the next group. -/
def decodeGroup (s : State) : Res (Bool × State) := do
  let s ← fetch 0 s
  match s.rlutOut with
  | .pad => .ok (false, finishOk s)
  | .notB64 => .ok (false, finishOk s)
  | .data va => do
    let s ← fetch 1 (shift va s)
    match s.rlutOut with
    | .pad => .ok (false, raiseMalformed s)
    | .notB64 => .ok (false, raiseMalformed s)
    | .data vb => do
      let s ← emit1 (shift vb s)
      let s ← fetch 2 s
      match s.rlutOut with
      | .notB64 => .ok (false, raiseMalformed s)
      | .pad => do
        let s ← fetch 3 s
        .ok (false, if isPad s.rlutOut then finishOk s else raiseMalformed s)
      | .data vc => do
        let s ← fetch 3 (shift vc s)
        match s.rlutOut with
        | .notB64 => .ok (false, raiseMalformed s)
        | .pad => do
          let s ← emit2 s
          .ok (false, finishOk s)
        | .data vd => do
          let s ← emit2 s
          let s ← decByte3 (shift vd s)
          .ok (true, s)

/-- The loop of R85, at most `n` groups; the string's terminator bounds them (R129, R133). -/
def decodeLoop : Nat → State → Res State
  | 0, _ => .error (.fault .unterminated)
  | n + 1, s => do
    let r ← decodeGroup s
    if r.1 then decodeLoop n r.2 else .ok r.2

/-- `DECODE(dest, src)` (R85). A string of `n` characters ends in at most `n / 4 + 1` groups (R100, R105). -/
def execDecode (s : State) : Answer :=
  answer (if s.dec.busy then .ok s
    else
      match strLen s s.io.decSrc with
      | none => .error (.fault .unterminated)
      | some n => do
        let s ← decAccept s
        decodeLoop (n / 4 + 1) s)

end Sys2Proof.Machine
end

