-- ==== Sys2Proof/Machine/RlutRows.lean ====
section
/-!
DEFINITION. The 256 rows of the reverse lookup table `RLUT` (30_encoding.md R61, R62), one meaning each, run by itself: the table
answers the row's classification. The classifications are those of opcode_table.json's rows, written out one by one;
Machine/Tables.lean has the ranges of R62 that the decoder's lookups use, and an obligation says that the two agree.
-/

namespace Sys2Proof.Machine

/-- `RLUT[0x00]` (R62). -/
def execRlut00 (s : State) : Answer :=
  answer (.ok (rlutAnswers s .notB64))

/-- `RLUT[0x01]` (R62). -/
def execRlut01 (s : State) : Answer :=
  answer (.ok (rlutAnswers s .notB64))

/-- `RLUT[0x02]` (R62). -/
def execRlut02 (s : State) : Answer :=
  answer (.ok (rlutAnswers s .notB64))

/-- `RLUT[0x03]` (R62). -/
def execRlut03 (s : State) : Answer :=
  answer (.ok (rlutAnswers s .notB64))

/-- `RLUT[0x04]` (R62). -/
def execRlut04 (s : State) : Answer :=
  answer (.ok (rlutAnswers s .notB64))

/-- `RLUT[0x05]` (R62). -/
def execRlut05 (s : State) : Answer :=
  answer (.ok (rlutAnswers s .notB64))

/-- `RLUT[0x06]` (R62). -/
def execRlut06 (s : State) : Answer :=
  answer (.ok (rlutAnswers s .notB64))

/-- `RLUT[0x07]` (R62). -/
def execRlut07 (s : State) : Answer :=
  answer (.ok (rlutAnswers s .notB64))

/-- `RLUT[0x08]` (R62). -/
def execRlut08 (s : State) : Answer :=
  answer (.ok (rlutAnswers s .notB64))

/-- `RLUT[0x09]` (R62). -/
def execRlut09 (s : State) : Answer :=
  answer (.ok (rlutAnswers s .notB64))

/-- `RLUT[0x0A]` (R62). -/
def execRlut0A (s : State) : Answer :=
  answer (.ok (rlutAnswers s .notB64))

/-- `RLUT[0x0B]` (R62). -/
def execRlut0B (s : State) : Answer :=
  answer (.ok (rlutAnswers s .notB64))

/-- `RLUT[0x0C]` (R62). -/
def execRlut0C (s : State) : Answer :=
  answer (.ok (rlutAnswers s .notB64))

/-- `RLUT[0x0D]` (R62). -/
def execRlut0D (s : State) : Answer :=
  answer (.ok (rlutAnswers s .notB64))

/-- `RLUT[0x0E]` (R62). -/
def execRlut0E (s : State) : Answer :=
  answer (.ok (rlutAnswers s .notB64))

/-- `RLUT[0x0F]` (R62). -/
def execRlut0F (s : State) : Answer :=
  answer (.ok (rlutAnswers s .notB64))

/-- `RLUT[0x10]` (R62). -/
def execRlut10 (s : State) : Answer :=
  answer (.ok (rlutAnswers s .notB64))

/-- `RLUT[0x11]` (R62). -/
def execRlut11 (s : State) : Answer :=
  answer (.ok (rlutAnswers s .notB64))

/-- `RLUT[0x12]` (R62). -/
def execRlut12 (s : State) : Answer :=
  answer (.ok (rlutAnswers s .notB64))

/-- `RLUT[0x13]` (R62). -/
def execRlut13 (s : State) : Answer :=
  answer (.ok (rlutAnswers s .notB64))

/-- `RLUT[0x14]` (R62). -/
def execRlut14 (s : State) : Answer :=
  answer (.ok (rlutAnswers s .notB64))

/-- `RLUT[0x15]` (R62). -/
def execRlut15 (s : State) : Answer :=
  answer (.ok (rlutAnswers s .notB64))

/-- `RLUT[0x16]` (R62). -/
def execRlut16 (s : State) : Answer :=
  answer (.ok (rlutAnswers s .notB64))

/-- `RLUT[0x17]` (R62). -/
def execRlut17 (s : State) : Answer :=
  answer (.ok (rlutAnswers s .notB64))

/-- `RLUT[0x18]` (R62). -/
def execRlut18 (s : State) : Answer :=
  answer (.ok (rlutAnswers s .notB64))

/-- `RLUT[0x19]` (R62). -/
def execRlut19 (s : State) : Answer :=
  answer (.ok (rlutAnswers s .notB64))

/-- `RLUT[0x1A]` (R62). -/
def execRlut1A (s : State) : Answer :=
  answer (.ok (rlutAnswers s .notB64))

/-- `RLUT[0x1B]` (R62). -/
def execRlut1B (s : State) : Answer :=
  answer (.ok (rlutAnswers s .notB64))

/-- `RLUT[0x1C]` (R62). -/
def execRlut1C (s : State) : Answer :=
  answer (.ok (rlutAnswers s .notB64))

/-- `RLUT[0x1D]` (R62). -/
def execRlut1D (s : State) : Answer :=
  answer (.ok (rlutAnswers s .notB64))

/-- `RLUT[0x1E]` (R62). -/
def execRlut1E (s : State) : Answer :=
  answer (.ok (rlutAnswers s .notB64))

/-- `RLUT[0x1F]` (R62). -/
def execRlut1F (s : State) : Answer :=
  answer (.ok (rlutAnswers s .notB64))

/-- `RLUT[0x20]` (R62). -/
def execRlut20 (s : State) : Answer :=
  answer (.ok (rlutAnswers s .notB64))

/-- `RLUT[0x21]` (R62). -/
def execRlut21 (s : State) : Answer :=
  answer (.ok (rlutAnswers s .notB64))

/-- `RLUT[0x22]` (R62). -/
def execRlut22 (s : State) : Answer :=
  answer (.ok (rlutAnswers s .notB64))

/-- `RLUT[0x23]` (R62). -/
def execRlut23 (s : State) : Answer :=
  answer (.ok (rlutAnswers s .notB64))

/-- `RLUT[0x24]` (R62). -/
def execRlut24 (s : State) : Answer :=
  answer (.ok (rlutAnswers s .notB64))

/-- `RLUT[0x25]` (R62). -/
def execRlut25 (s : State) : Answer :=
  answer (.ok (rlutAnswers s .notB64))

/-- `RLUT[0x26]` (R62). -/
def execRlut26 (s : State) : Answer :=
  answer (.ok (rlutAnswers s .notB64))

/-- `RLUT[0x27]` (R62). -/
def execRlut27 (s : State) : Answer :=
  answer (.ok (rlutAnswers s .notB64))

/-- `RLUT[0x28]` (R62). -/
def execRlut28 (s : State) : Answer :=
  answer (.ok (rlutAnswers s .notB64))

/-- `RLUT[0x29]` (R62). -/
def execRlut29 (s : State) : Answer :=
  answer (.ok (rlutAnswers s .notB64))

/-- `RLUT[0x2A]` (R62). -/
def execRlut2A (s : State) : Answer :=
  answer (.ok (rlutAnswers s .notB64))

/-- `RLUT[0x2B]` (R62). -/
def execRlut2B (s : State) : Answer :=
  answer (.ok (rlutAnswers s (.data 0x3E#6)))

/-- `RLUT[0x2C]` (R62). -/
def execRlut2C (s : State) : Answer :=
  answer (.ok (rlutAnswers s .notB64))

/-- `RLUT[0x2D]` (R62). -/
def execRlut2D (s : State) : Answer :=
  answer (.ok (rlutAnswers s .notB64))

/-- `RLUT[0x2E]` (R62). -/
def execRlut2E (s : State) : Answer :=
  answer (.ok (rlutAnswers s .notB64))

/-- `RLUT[0x2F]` (R62). -/
def execRlut2F (s : State) : Answer :=
  answer (.ok (rlutAnswers s (.data 0x3F#6)))

/-- `RLUT[0x30]` (R62). -/
def execRlut30 (s : State) : Answer :=
  answer (.ok (rlutAnswers s (.data 0x34#6)))

/-- `RLUT[0x31]` (R62). -/
def execRlut31 (s : State) : Answer :=
  answer (.ok (rlutAnswers s (.data 0x35#6)))

/-- `RLUT[0x32]` (R62). -/
def execRlut32 (s : State) : Answer :=
  answer (.ok (rlutAnswers s (.data 0x36#6)))

/-- `RLUT[0x33]` (R62). -/
def execRlut33 (s : State) : Answer :=
  answer (.ok (rlutAnswers s (.data 0x37#6)))

/-- `RLUT[0x34]` (R62). -/
def execRlut34 (s : State) : Answer :=
  answer (.ok (rlutAnswers s (.data 0x38#6)))

/-- `RLUT[0x35]` (R62). -/
def execRlut35 (s : State) : Answer :=
  answer (.ok (rlutAnswers s (.data 0x39#6)))

/-- `RLUT[0x36]` (R62). -/
def execRlut36 (s : State) : Answer :=
  answer (.ok (rlutAnswers s (.data 0x3A#6)))

/-- `RLUT[0x37]` (R62). -/
def execRlut37 (s : State) : Answer :=
  answer (.ok (rlutAnswers s (.data 0x3B#6)))

/-- `RLUT[0x38]` (R62). -/
def execRlut38 (s : State) : Answer :=
  answer (.ok (rlutAnswers s (.data 0x3C#6)))

/-- `RLUT[0x39]` (R62). -/
def execRlut39 (s : State) : Answer :=
  answer (.ok (rlutAnswers s (.data 0x3D#6)))

/-- `RLUT[0x3A]` (R62). -/
def execRlut3A (s : State) : Answer :=
  answer (.ok (rlutAnswers s .notB64))

/-- `RLUT[0x3B]` (R62). -/
def execRlut3B (s : State) : Answer :=
  answer (.ok (rlutAnswers s .notB64))

/-- `RLUT[0x3C]` (R62). -/
def execRlut3C (s : State) : Answer :=
  answer (.ok (rlutAnswers s .notB64))

/-- `RLUT[0x3D]` (R62). -/
def execRlut3D (s : State) : Answer :=
  answer (.ok (rlutAnswers s .pad))

/-- `RLUT[0x3E]` (R62). -/
def execRlut3E (s : State) : Answer :=
  answer (.ok (rlutAnswers s .notB64))

/-- `RLUT[0x3F]` (R62). -/
def execRlut3F (s : State) : Answer :=
  answer (.ok (rlutAnswers s .notB64))

/-- `RLUT[0x40]` (R62). -/
def execRlut40 (s : State) : Answer :=
  answer (.ok (rlutAnswers s .notB64))

/-- `RLUT[0x41]` (R62). -/
def execRlut41 (s : State) : Answer :=
  answer (.ok (rlutAnswers s (.data 0x00#6)))

/-- `RLUT[0x42]` (R62). -/
def execRlut42 (s : State) : Answer :=
  answer (.ok (rlutAnswers s (.data 0x01#6)))

/-- `RLUT[0x43]` (R62). -/
def execRlut43 (s : State) : Answer :=
  answer (.ok (rlutAnswers s (.data 0x02#6)))

/-- `RLUT[0x44]` (R62). -/
def execRlut44 (s : State) : Answer :=
  answer (.ok (rlutAnswers s (.data 0x03#6)))

/-- `RLUT[0x45]` (R62). -/
def execRlut45 (s : State) : Answer :=
  answer (.ok (rlutAnswers s (.data 0x04#6)))

/-- `RLUT[0x46]` (R62). -/
def execRlut46 (s : State) : Answer :=
  answer (.ok (rlutAnswers s (.data 0x05#6)))

/-- `RLUT[0x47]` (R62). -/
def execRlut47 (s : State) : Answer :=
  answer (.ok (rlutAnswers s (.data 0x06#6)))

/-- `RLUT[0x48]` (R62). -/
def execRlut48 (s : State) : Answer :=
  answer (.ok (rlutAnswers s (.data 0x07#6)))

/-- `RLUT[0x49]` (R62). -/
def execRlut49 (s : State) : Answer :=
  answer (.ok (rlutAnswers s (.data 0x08#6)))

/-- `RLUT[0x4A]` (R62). -/
def execRlut4A (s : State) : Answer :=
  answer (.ok (rlutAnswers s (.data 0x09#6)))

/-- `RLUT[0x4B]` (R62). -/
def execRlut4B (s : State) : Answer :=
  answer (.ok (rlutAnswers s (.data 0x0A#6)))

/-- `RLUT[0x4C]` (R62). -/
def execRlut4C (s : State) : Answer :=
  answer (.ok (rlutAnswers s (.data 0x0B#6)))

/-- `RLUT[0x4D]` (R62). -/
def execRlut4D (s : State) : Answer :=
  answer (.ok (rlutAnswers s (.data 0x0C#6)))

/-- `RLUT[0x4E]` (R62). -/
def execRlut4E (s : State) : Answer :=
  answer (.ok (rlutAnswers s (.data 0x0D#6)))

/-- `RLUT[0x4F]` (R62). -/
def execRlut4F (s : State) : Answer :=
  answer (.ok (rlutAnswers s (.data 0x0E#6)))

/-- `RLUT[0x50]` (R62). -/
def execRlut50 (s : State) : Answer :=
  answer (.ok (rlutAnswers s (.data 0x0F#6)))

/-- `RLUT[0x51]` (R62). -/
def execRlut51 (s : State) : Answer :=
  answer (.ok (rlutAnswers s (.data 0x10#6)))

/-- `RLUT[0x52]` (R62). -/
def execRlut52 (s : State) : Answer :=
  answer (.ok (rlutAnswers s (.data 0x11#6)))

/-- `RLUT[0x53]` (R62). -/
def execRlut53 (s : State) : Answer :=
  answer (.ok (rlutAnswers s (.data 0x12#6)))

/-- `RLUT[0x54]` (R62). -/
def execRlut54 (s : State) : Answer :=
  answer (.ok (rlutAnswers s (.data 0x13#6)))

/-- `RLUT[0x55]` (R62). -/
def execRlut55 (s : State) : Answer :=
  answer (.ok (rlutAnswers s (.data 0x14#6)))

/-- `RLUT[0x56]` (R62). -/
def execRlut56 (s : State) : Answer :=
  answer (.ok (rlutAnswers s (.data 0x15#6)))

/-- `RLUT[0x57]` (R62). -/
def execRlut57 (s : State) : Answer :=
  answer (.ok (rlutAnswers s (.data 0x16#6)))

/-- `RLUT[0x58]` (R62). -/
def execRlut58 (s : State) : Answer :=
  answer (.ok (rlutAnswers s (.data 0x17#6)))

/-- `RLUT[0x59]` (R62). -/
def execRlut59 (s : State) : Answer :=
  answer (.ok (rlutAnswers s (.data 0x18#6)))

/-- `RLUT[0x5A]` (R62). -/
def execRlut5A (s : State) : Answer :=
  answer (.ok (rlutAnswers s (.data 0x19#6)))

/-- `RLUT[0x5B]` (R62). -/
def execRlut5B (s : State) : Answer :=
  answer (.ok (rlutAnswers s .notB64))

/-- `RLUT[0x5C]` (R62). -/
def execRlut5C (s : State) : Answer :=
  answer (.ok (rlutAnswers s .notB64))

/-- `RLUT[0x5D]` (R62). -/
def execRlut5D (s : State) : Answer :=
  answer (.ok (rlutAnswers s .notB64))

/-- `RLUT[0x5E]` (R62). -/
def execRlut5E (s : State) : Answer :=
  answer (.ok (rlutAnswers s .notB64))

/-- `RLUT[0x5F]` (R62). -/
def execRlut5F (s : State) : Answer :=
  answer (.ok (rlutAnswers s .notB64))

/-- `RLUT[0x60]` (R62). -/
def execRlut60 (s : State) : Answer :=
  answer (.ok (rlutAnswers s .notB64))

/-- `RLUT[0x61]` (R62). -/
def execRlut61 (s : State) : Answer :=
  answer (.ok (rlutAnswers s (.data 0x1A#6)))

/-- `RLUT[0x62]` (R62). -/
def execRlut62 (s : State) : Answer :=
  answer (.ok (rlutAnswers s (.data 0x1B#6)))

/-- `RLUT[0x63]` (R62). -/
def execRlut63 (s : State) : Answer :=
  answer (.ok (rlutAnswers s (.data 0x1C#6)))

/-- `RLUT[0x64]` (R62). -/
def execRlut64 (s : State) : Answer :=
  answer (.ok (rlutAnswers s (.data 0x1D#6)))

/-- `RLUT[0x65]` (R62). -/
def execRlut65 (s : State) : Answer :=
  answer (.ok (rlutAnswers s (.data 0x1E#6)))

/-- `RLUT[0x66]` (R62). -/
def execRlut66 (s : State) : Answer :=
  answer (.ok (rlutAnswers s (.data 0x1F#6)))

/-- `RLUT[0x67]` (R62). -/
def execRlut67 (s : State) : Answer :=
  answer (.ok (rlutAnswers s (.data 0x20#6)))

/-- `RLUT[0x68]` (R62). -/
def execRlut68 (s : State) : Answer :=
  answer (.ok (rlutAnswers s (.data 0x21#6)))

/-- `RLUT[0x69]` (R62). -/
def execRlut69 (s : State) : Answer :=
  answer (.ok (rlutAnswers s (.data 0x22#6)))

/-- `RLUT[0x6A]` (R62). -/
def execRlut6A (s : State) : Answer :=
  answer (.ok (rlutAnswers s (.data 0x23#6)))

/-- `RLUT[0x6B]` (R62). -/
def execRlut6B (s : State) : Answer :=
  answer (.ok (rlutAnswers s (.data 0x24#6)))

/-- `RLUT[0x6C]` (R62). -/
def execRlut6C (s : State) : Answer :=
  answer (.ok (rlutAnswers s (.data 0x25#6)))

/-- `RLUT[0x6D]` (R62). -/
def execRlut6D (s : State) : Answer :=
  answer (.ok (rlutAnswers s (.data 0x26#6)))

/-- `RLUT[0x6E]` (R62). -/
def execRlut6E (s : State) : Answer :=
  answer (.ok (rlutAnswers s (.data 0x27#6)))

/-- `RLUT[0x6F]` (R62). -/
def execRlut6F (s : State) : Answer :=
  answer (.ok (rlutAnswers s (.data 0x28#6)))

/-- `RLUT[0x70]` (R62). -/
def execRlut70 (s : State) : Answer :=
  answer (.ok (rlutAnswers s (.data 0x29#6)))

/-- `RLUT[0x71]` (R62). -/
def execRlut71 (s : State) : Answer :=
  answer (.ok (rlutAnswers s (.data 0x2A#6)))

/-- `RLUT[0x72]` (R62). -/
def execRlut72 (s : State) : Answer :=
  answer (.ok (rlutAnswers s (.data 0x2B#6)))

/-- `RLUT[0x73]` (R62). -/
def execRlut73 (s : State) : Answer :=
  answer (.ok (rlutAnswers s (.data 0x2C#6)))

/-- `RLUT[0x74]` (R62). -/
def execRlut74 (s : State) : Answer :=
  answer (.ok (rlutAnswers s (.data 0x2D#6)))

/-- `RLUT[0x75]` (R62). -/
def execRlut75 (s : State) : Answer :=
  answer (.ok (rlutAnswers s (.data 0x2E#6)))

/-- `RLUT[0x76]` (R62). -/
def execRlut76 (s : State) : Answer :=
  answer (.ok (rlutAnswers s (.data 0x2F#6)))

/-- `RLUT[0x77]` (R62). -/
def execRlut77 (s : State) : Answer :=
  answer (.ok (rlutAnswers s (.data 0x30#6)))

/-- `RLUT[0x78]` (R62). -/
def execRlut78 (s : State) : Answer :=
  answer (.ok (rlutAnswers s (.data 0x31#6)))

/-- `RLUT[0x79]` (R62). -/
def execRlut79 (s : State) : Answer :=
  answer (.ok (rlutAnswers s (.data 0x32#6)))

/-- `RLUT[0x7A]` (R62). -/
def execRlut7A (s : State) : Answer :=
  answer (.ok (rlutAnswers s (.data 0x33#6)))

/-- `RLUT[0x7B]` (R62). -/
def execRlut7B (s : State) : Answer :=
  answer (.ok (rlutAnswers s .notB64))

/-- `RLUT[0x7C]` (R62). -/
def execRlut7C (s : State) : Answer :=
  answer (.ok (rlutAnswers s .notB64))

/-- `RLUT[0x7D]` (R62). -/
def execRlut7D (s : State) : Answer :=
  answer (.ok (rlutAnswers s .notB64))

/-- `RLUT[0x7E]` (R62). -/
def execRlut7E (s : State) : Answer :=
  answer (.ok (rlutAnswers s .notB64))

/-- `RLUT[0x7F]` (R62). -/
def execRlut7F (s : State) : Answer :=
  answer (.ok (rlutAnswers s .notB64))

/-- `RLUT[0x80]` (R62). -/
def execRlut80 (s : State) : Answer :=
  answer (.ok (rlutAnswers s .notB64))

/-- `RLUT[0x81]` (R62). -/
def execRlut81 (s : State) : Answer :=
  answer (.ok (rlutAnswers s .notB64))

/-- `RLUT[0x82]` (R62). -/
def execRlut82 (s : State) : Answer :=
  answer (.ok (rlutAnswers s .notB64))

/-- `RLUT[0x83]` (R62). -/
def execRlut83 (s : State) : Answer :=
  answer (.ok (rlutAnswers s .notB64))

/-- `RLUT[0x84]` (R62). -/
def execRlut84 (s : State) : Answer :=
  answer (.ok (rlutAnswers s .notB64))

/-- `RLUT[0x85]` (R62). -/
def execRlut85 (s : State) : Answer :=
  answer (.ok (rlutAnswers s .notB64))

/-- `RLUT[0x86]` (R62). -/
def execRlut86 (s : State) : Answer :=
  answer (.ok (rlutAnswers s .notB64))

/-- `RLUT[0x87]` (R62). -/
def execRlut87 (s : State) : Answer :=
  answer (.ok (rlutAnswers s .notB64))

/-- `RLUT[0x88]` (R62). -/
def execRlut88 (s : State) : Answer :=
  answer (.ok (rlutAnswers s .notB64))

/-- `RLUT[0x89]` (R62). -/
def execRlut89 (s : State) : Answer :=
  answer (.ok (rlutAnswers s .notB64))

/-- `RLUT[0x8A]` (R62). -/
def execRlut8A (s : State) : Answer :=
  answer (.ok (rlutAnswers s .notB64))

/-- `RLUT[0x8B]` (R62). -/
def execRlut8B (s : State) : Answer :=
  answer (.ok (rlutAnswers s .notB64))

/-- `RLUT[0x8C]` (R62). -/
def execRlut8C (s : State) : Answer :=
  answer (.ok (rlutAnswers s .notB64))

/-- `RLUT[0x8D]` (R62). -/
def execRlut8D (s : State) : Answer :=
  answer (.ok (rlutAnswers s .notB64))

/-- `RLUT[0x8E]` (R62). -/
def execRlut8E (s : State) : Answer :=
  answer (.ok (rlutAnswers s .notB64))

/-- `RLUT[0x8F]` (R62). -/
def execRlut8F (s : State) : Answer :=
  answer (.ok (rlutAnswers s .notB64))

/-- `RLUT[0x90]` (R62). -/
def execRlut90 (s : State) : Answer :=
  answer (.ok (rlutAnswers s .notB64))

/-- `RLUT[0x91]` (R62). -/
def execRlut91 (s : State) : Answer :=
  answer (.ok (rlutAnswers s .notB64))

/-- `RLUT[0x92]` (R62). -/
def execRlut92 (s : State) : Answer :=
  answer (.ok (rlutAnswers s .notB64))

/-- `RLUT[0x93]` (R62). -/
def execRlut93 (s : State) : Answer :=
  answer (.ok (rlutAnswers s .notB64))

/-- `RLUT[0x94]` (R62). -/
def execRlut94 (s : State) : Answer :=
  answer (.ok (rlutAnswers s .notB64))

/-- `RLUT[0x95]` (R62). -/
def execRlut95 (s : State) : Answer :=
  answer (.ok (rlutAnswers s .notB64))

/-- `RLUT[0x96]` (R62). -/
def execRlut96 (s : State) : Answer :=
  answer (.ok (rlutAnswers s .notB64))

/-- `RLUT[0x97]` (R62). -/
def execRlut97 (s : State) : Answer :=
  answer (.ok (rlutAnswers s .notB64))

/-- `RLUT[0x98]` (R62). -/
def execRlut98 (s : State) : Answer :=
  answer (.ok (rlutAnswers s .notB64))

/-- `RLUT[0x99]` (R62). -/
def execRlut99 (s : State) : Answer :=
  answer (.ok (rlutAnswers s .notB64))

/-- `RLUT[0x9A]` (R62). -/
def execRlut9A (s : State) : Answer :=
  answer (.ok (rlutAnswers s .notB64))

/-- `RLUT[0x9B]` (R62). -/
def execRlut9B (s : State) : Answer :=
  answer (.ok (rlutAnswers s .notB64))

/-- `RLUT[0x9C]` (R62). -/
def execRlut9C (s : State) : Answer :=
  answer (.ok (rlutAnswers s .notB64))

/-- `RLUT[0x9D]` (R62). -/
def execRlut9D (s : State) : Answer :=
  answer (.ok (rlutAnswers s .notB64))

/-- `RLUT[0x9E]` (R62). -/
def execRlut9E (s : State) : Answer :=
  answer (.ok (rlutAnswers s .notB64))

/-- `RLUT[0x9F]` (R62). -/
def execRlut9F (s : State) : Answer :=
  answer (.ok (rlutAnswers s .notB64))

/-- `RLUT[0xA0]` (R62). -/
def execRlutA0 (s : State) : Answer :=
  answer (.ok (rlutAnswers s .notB64))

/-- `RLUT[0xA1]` (R62). -/
def execRlutA1 (s : State) : Answer :=
  answer (.ok (rlutAnswers s .notB64))

/-- `RLUT[0xA2]` (R62). -/
def execRlutA2 (s : State) : Answer :=
  answer (.ok (rlutAnswers s .notB64))

/-- `RLUT[0xA3]` (R62). -/
def execRlutA3 (s : State) : Answer :=
  answer (.ok (rlutAnswers s .notB64))

/-- `RLUT[0xA4]` (R62). -/
def execRlutA4 (s : State) : Answer :=
  answer (.ok (rlutAnswers s .notB64))

/-- `RLUT[0xA5]` (R62). -/
def execRlutA5 (s : State) : Answer :=
  answer (.ok (rlutAnswers s .notB64))

/-- `RLUT[0xA6]` (R62). -/
def execRlutA6 (s : State) : Answer :=
  answer (.ok (rlutAnswers s .notB64))

/-- `RLUT[0xA7]` (R62). -/
def execRlutA7 (s : State) : Answer :=
  answer (.ok (rlutAnswers s .notB64))

/-- `RLUT[0xA8]` (R62). -/
def execRlutA8 (s : State) : Answer :=
  answer (.ok (rlutAnswers s .notB64))

/-- `RLUT[0xA9]` (R62). -/
def execRlutA9 (s : State) : Answer :=
  answer (.ok (rlutAnswers s .notB64))

/-- `RLUT[0xAA]` (R62). -/
def execRlutAA (s : State) : Answer :=
  answer (.ok (rlutAnswers s .notB64))

/-- `RLUT[0xAB]` (R62). -/
def execRlutAB (s : State) : Answer :=
  answer (.ok (rlutAnswers s .notB64))

/-- `RLUT[0xAC]` (R62). -/
def execRlutAC (s : State) : Answer :=
  answer (.ok (rlutAnswers s .notB64))

/-- `RLUT[0xAD]` (R62). -/
def execRlutAD (s : State) : Answer :=
  answer (.ok (rlutAnswers s .notB64))

/-- `RLUT[0xAE]` (R62). -/
def execRlutAE (s : State) : Answer :=
  answer (.ok (rlutAnswers s .notB64))

/-- `RLUT[0xAF]` (R62). -/
def execRlutAF (s : State) : Answer :=
  answer (.ok (rlutAnswers s .notB64))

/-- `RLUT[0xB0]` (R62). -/
def execRlutB0 (s : State) : Answer :=
  answer (.ok (rlutAnswers s .notB64))

/-- `RLUT[0xB1]` (R62). -/
def execRlutB1 (s : State) : Answer :=
  answer (.ok (rlutAnswers s .notB64))

/-- `RLUT[0xB2]` (R62). -/
def execRlutB2 (s : State) : Answer :=
  answer (.ok (rlutAnswers s .notB64))

/-- `RLUT[0xB3]` (R62). -/
def execRlutB3 (s : State) : Answer :=
  answer (.ok (rlutAnswers s .notB64))

/-- `RLUT[0xB4]` (R62). -/
def execRlutB4 (s : State) : Answer :=
  answer (.ok (rlutAnswers s .notB64))

/-- `RLUT[0xB5]` (R62). -/
def execRlutB5 (s : State) : Answer :=
  answer (.ok (rlutAnswers s .notB64))

/-- `RLUT[0xB6]` (R62). -/
def execRlutB6 (s : State) : Answer :=
  answer (.ok (rlutAnswers s .notB64))

/-- `RLUT[0xB7]` (R62). -/
def execRlutB7 (s : State) : Answer :=
  answer (.ok (rlutAnswers s .notB64))

/-- `RLUT[0xB8]` (R62). -/
def execRlutB8 (s : State) : Answer :=
  answer (.ok (rlutAnswers s .notB64))

/-- `RLUT[0xB9]` (R62). -/
def execRlutB9 (s : State) : Answer :=
  answer (.ok (rlutAnswers s .notB64))

/-- `RLUT[0xBA]` (R62). -/
def execRlutBA (s : State) : Answer :=
  answer (.ok (rlutAnswers s .notB64))

/-- `RLUT[0xBB]` (R62). -/
def execRlutBB (s : State) : Answer :=
  answer (.ok (rlutAnswers s .notB64))

/-- `RLUT[0xBC]` (R62). -/
def execRlutBC (s : State) : Answer :=
  answer (.ok (rlutAnswers s .notB64))

/-- `RLUT[0xBD]` (R62). -/
def execRlutBD (s : State) : Answer :=
  answer (.ok (rlutAnswers s .notB64))

/-- `RLUT[0xBE]` (R62). -/
def execRlutBE (s : State) : Answer :=
  answer (.ok (rlutAnswers s .notB64))

/-- `RLUT[0xBF]` (R62). -/
def execRlutBF (s : State) : Answer :=
  answer (.ok (rlutAnswers s .notB64))

/-- `RLUT[0xC0]` (R62). -/
def execRlutC0 (s : State) : Answer :=
  answer (.ok (rlutAnswers s .notB64))

/-- `RLUT[0xC1]` (R62). -/
def execRlutC1 (s : State) : Answer :=
  answer (.ok (rlutAnswers s .notB64))

/-- `RLUT[0xC2]` (R62). -/
def execRlutC2 (s : State) : Answer :=
  answer (.ok (rlutAnswers s .notB64))

/-- `RLUT[0xC3]` (R62). -/
def execRlutC3 (s : State) : Answer :=
  answer (.ok (rlutAnswers s .notB64))

/-- `RLUT[0xC4]` (R62). -/
def execRlutC4 (s : State) : Answer :=
  answer (.ok (rlutAnswers s .notB64))

/-- `RLUT[0xC5]` (R62). -/
def execRlutC5 (s : State) : Answer :=
  answer (.ok (rlutAnswers s .notB64))

/-- `RLUT[0xC6]` (R62). -/
def execRlutC6 (s : State) : Answer :=
  answer (.ok (rlutAnswers s .notB64))

/-- `RLUT[0xC7]` (R62). -/
def execRlutC7 (s : State) : Answer :=
  answer (.ok (rlutAnswers s .notB64))

/-- `RLUT[0xC8]` (R62). -/
def execRlutC8 (s : State) : Answer :=
  answer (.ok (rlutAnswers s .notB64))

/-- `RLUT[0xC9]` (R62). -/
def execRlutC9 (s : State) : Answer :=
  answer (.ok (rlutAnswers s .notB64))

/-- `RLUT[0xCA]` (R62). -/
def execRlutCA (s : State) : Answer :=
  answer (.ok (rlutAnswers s .notB64))

/-- `RLUT[0xCB]` (R62). -/
def execRlutCB (s : State) : Answer :=
  answer (.ok (rlutAnswers s .notB64))

/-- `RLUT[0xCC]` (R62). -/
def execRlutCC (s : State) : Answer :=
  answer (.ok (rlutAnswers s .notB64))

/-- `RLUT[0xCD]` (R62). -/
def execRlutCD (s : State) : Answer :=
  answer (.ok (rlutAnswers s .notB64))

/-- `RLUT[0xCE]` (R62). -/
def execRlutCE (s : State) : Answer :=
  answer (.ok (rlutAnswers s .notB64))

/-- `RLUT[0xCF]` (R62). -/
def execRlutCF (s : State) : Answer :=
  answer (.ok (rlutAnswers s .notB64))

/-- `RLUT[0xD0]` (R62). -/
def execRlutD0 (s : State) : Answer :=
  answer (.ok (rlutAnswers s .notB64))

/-- `RLUT[0xD1]` (R62). -/
def execRlutD1 (s : State) : Answer :=
  answer (.ok (rlutAnswers s .notB64))

/-- `RLUT[0xD2]` (R62). -/
def execRlutD2 (s : State) : Answer :=
  answer (.ok (rlutAnswers s .notB64))

/-- `RLUT[0xD3]` (R62). -/
def execRlutD3 (s : State) : Answer :=
  answer (.ok (rlutAnswers s .notB64))

/-- `RLUT[0xD4]` (R62). -/
def execRlutD4 (s : State) : Answer :=
  answer (.ok (rlutAnswers s .notB64))

/-- `RLUT[0xD5]` (R62). -/
def execRlutD5 (s : State) : Answer :=
  answer (.ok (rlutAnswers s .notB64))

/-- `RLUT[0xD6]` (R62). -/
def execRlutD6 (s : State) : Answer :=
  answer (.ok (rlutAnswers s .notB64))

/-- `RLUT[0xD7]` (R62). -/
def execRlutD7 (s : State) : Answer :=
  answer (.ok (rlutAnswers s .notB64))

/-- `RLUT[0xD8]` (R62). -/
def execRlutD8 (s : State) : Answer :=
  answer (.ok (rlutAnswers s .notB64))

/-- `RLUT[0xD9]` (R62). -/
def execRlutD9 (s : State) : Answer :=
  answer (.ok (rlutAnswers s .notB64))

/-- `RLUT[0xDA]` (R62). -/
def execRlutDA (s : State) : Answer :=
  answer (.ok (rlutAnswers s .notB64))

/-- `RLUT[0xDB]` (R62). -/
def execRlutDB (s : State) : Answer :=
  answer (.ok (rlutAnswers s .notB64))

/-- `RLUT[0xDC]` (R62). -/
def execRlutDC (s : State) : Answer :=
  answer (.ok (rlutAnswers s .notB64))

/-- `RLUT[0xDD]` (R62). -/
def execRlutDD (s : State) : Answer :=
  answer (.ok (rlutAnswers s .notB64))

/-- `RLUT[0xDE]` (R62). -/
def execRlutDE (s : State) : Answer :=
  answer (.ok (rlutAnswers s .notB64))

/-- `RLUT[0xDF]` (R62). -/
def execRlutDF (s : State) : Answer :=
  answer (.ok (rlutAnswers s .notB64))

/-- `RLUT[0xE0]` (R62). -/
def execRlutE0 (s : State) : Answer :=
  answer (.ok (rlutAnswers s .notB64))

/-- `RLUT[0xE1]` (R62). -/
def execRlutE1 (s : State) : Answer :=
  answer (.ok (rlutAnswers s .notB64))

/-- `RLUT[0xE2]` (R62). -/
def execRlutE2 (s : State) : Answer :=
  answer (.ok (rlutAnswers s .notB64))

/-- `RLUT[0xE3]` (R62). -/
def execRlutE3 (s : State) : Answer :=
  answer (.ok (rlutAnswers s .notB64))

/-- `RLUT[0xE4]` (R62). -/
def execRlutE4 (s : State) : Answer :=
  answer (.ok (rlutAnswers s .notB64))

/-- `RLUT[0xE5]` (R62). -/
def execRlutE5 (s : State) : Answer :=
  answer (.ok (rlutAnswers s .notB64))

/-- `RLUT[0xE6]` (R62). -/
def execRlutE6 (s : State) : Answer :=
  answer (.ok (rlutAnswers s .notB64))

/-- `RLUT[0xE7]` (R62). -/
def execRlutE7 (s : State) : Answer :=
  answer (.ok (rlutAnswers s .notB64))

/-- `RLUT[0xE8]` (R62). -/
def execRlutE8 (s : State) : Answer :=
  answer (.ok (rlutAnswers s .notB64))

/-- `RLUT[0xE9]` (R62). -/
def execRlutE9 (s : State) : Answer :=
  answer (.ok (rlutAnswers s .notB64))

/-- `RLUT[0xEA]` (R62). -/
def execRlutEA (s : State) : Answer :=
  answer (.ok (rlutAnswers s .notB64))

/-- `RLUT[0xEB]` (R62). -/
def execRlutEB (s : State) : Answer :=
  answer (.ok (rlutAnswers s .notB64))

/-- `RLUT[0xEC]` (R62). -/
def execRlutEC (s : State) : Answer :=
  answer (.ok (rlutAnswers s .notB64))

/-- `RLUT[0xED]` (R62). -/
def execRlutED (s : State) : Answer :=
  answer (.ok (rlutAnswers s .notB64))

/-- `RLUT[0xEE]` (R62). -/
def execRlutEE (s : State) : Answer :=
  answer (.ok (rlutAnswers s .notB64))

/-- `RLUT[0xEF]` (R62). -/
def execRlutEF (s : State) : Answer :=
  answer (.ok (rlutAnswers s .notB64))

/-- `RLUT[0xF0]` (R62). -/
def execRlutF0 (s : State) : Answer :=
  answer (.ok (rlutAnswers s .notB64))

/-- `RLUT[0xF1]` (R62). -/
def execRlutF1 (s : State) : Answer :=
  answer (.ok (rlutAnswers s .notB64))

/-- `RLUT[0xF2]` (R62). -/
def execRlutF2 (s : State) : Answer :=
  answer (.ok (rlutAnswers s .notB64))

/-- `RLUT[0xF3]` (R62). -/
def execRlutF3 (s : State) : Answer :=
  answer (.ok (rlutAnswers s .notB64))

/-- `RLUT[0xF4]` (R62). -/
def execRlutF4 (s : State) : Answer :=
  answer (.ok (rlutAnswers s .notB64))

/-- `RLUT[0xF5]` (R62). -/
def execRlutF5 (s : State) : Answer :=
  answer (.ok (rlutAnswers s .notB64))

/-- `RLUT[0xF6]` (R62). -/
def execRlutF6 (s : State) : Answer :=
  answer (.ok (rlutAnswers s .notB64))

/-- `RLUT[0xF7]` (R62). -/
def execRlutF7 (s : State) : Answer :=
  answer (.ok (rlutAnswers s .notB64))

/-- `RLUT[0xF8]` (R62). -/
def execRlutF8 (s : State) : Answer :=
  answer (.ok (rlutAnswers s .notB64))

/-- `RLUT[0xF9]` (R62). -/
def execRlutF9 (s : State) : Answer :=
  answer (.ok (rlutAnswers s .notB64))

/-- `RLUT[0xFA]` (R62). -/
def execRlutFA (s : State) : Answer :=
  answer (.ok (rlutAnswers s .notB64))

/-- `RLUT[0xFB]` (R62). -/
def execRlutFB (s : State) : Answer :=
  answer (.ok (rlutAnswers s .notB64))

/-- `RLUT[0xFC]` (R62). -/
def execRlutFC (s : State) : Answer :=
  answer (.ok (rlutAnswers s .notB64))

/-- `RLUT[0xFD]` (R62). -/
def execRlutFD (s : State) : Answer :=
  answer (.ok (rlutAnswers s .notB64))

/-- `RLUT[0xFE]` (R62). -/
def execRlutFE (s : State) : Answer :=
  answer (.ok (rlutAnswers s .notB64))

/-- `RLUT[0xFF]` (R62). -/
def execRlutFF (s : State) : Answer :=
  answer (.ok (rlutAnswers s .notB64))

end Sys2Proof.Machine
end

