-- ==== Sys2Proof/Syntax.lean ====
section
/-!
DEFINITION. The operations of the block: one constructor for each of the 341 rows of spec/opcode_table.json, in the table's
order (30_encoding.md R50, R63, R64, R66), and the formats the rows belong to. The block fetches no instruction words
(R20); a row's word is what selects it in its own format.
-/

namespace Sys2Proof

/-- The selectors of opcode_table.json (its column "format"; the four DEC_SUB rows are told apart by name, since their words
overlap). Each has its own word, read by its own unit. -/
inductive Format where
  /-- `op`, one bit (R66) -/
  | cmd
  /-- `{enc_start, E.busy}` (R71) -/
  | ctrlEnc
  /-- `{dec_start, D.busy}` (R86) -/
  | ctrlDec
  /-- `m = min(E.rem, 3)` (R64) -/
  | encAct
  /-- the class codes `aabbccdd` of a group (R63) -/
  | decAct
  /-- the character index `kk` of `DEC.FETCH` (R87) -/
  | decFetch
  /-- the sextet `vvvvvv` of `DEC.SHIFT` (R88) -/
  | decShift
  /-- `DEC.EMIT1`, no operand field (R91) -/
  | decEmit1
  /-- `DEC.EMIT2`, no operand field (R97) -/
  | decEmit2
  /-- the index of an `ALPHA` lookup, six bits (R55) -/
  | alpha
  /-- the character code of an `RLUT` lookup, eight bits (R62) -/
  | rlut
  deriving DecidableEq, Repr

/-- One constructor per row of spec/opcode_table.json. -/
inductive Instr where
  /-- `ENCODE(dest, src, size)`, the whole operation (R70); its operands are the encoder's ports (R51). -/
  | encode
  /-- `DECODE(dest, src)`, the whole operation (R85); its operands are the decoder's ports (R52). -/
  | decode
  /-- Acceptance of an `ENCODE` command (R71). -/
  | encStart
  /-- Acceptance of a `DECODE` command (R86). -/
  | decStart
  /-- One full group of three bytes (R72). -/
  | encG3
  /-- The tail of two bytes (R73). -/
  | encT2
  /-- The tail of one byte (R74). -/
  | encT1
  /-- Terminate and complete (R75). -/
  | encT0
  /-- Classes `N - - -` or `P - - -`: success, nothing written by this group (R89). -/
  | decEnd0
  /-- Classes `D N - -` or `D P - -`: malformed (R90). -/
  | decFailB
  /-- Classes `D D N -`: malformed after byte 1 (R92). -/
  | decFailC
  /-- Classes `D D D N`: malformed after byte 1 (R93). -/
  | decFailD
  /-- Classes `D D P N`: malformed after byte 1 (R94). -/
  | decFailDP
  /-- Classes `D D P D`: malformed after byte 1 (R95). -/
  | decFailPD
  /-- Classes `D D P P`: success, one byte (R96). -/
  | decEnd1
  /-- Classes `D D D P`: success, two bytes (R98). -/
  | decEnd2
  /-- Classes `D D D D`: three bytes, then the next group (R99). -/
  | decFull
  /-- Fetch and classify character `k` of the group, `k = 0 .. 3` (R87). -/
  | decFetch (k : Nat)
  /-- Shift one sextet into the group shifter (R88). -/
  | decShift (v : Sextet)
  /-- Write byte 1 of the group (R91). -/
  | decEmit1
  /-- Write byte 2 of the group (R97). -/
  | decEmit2
  -- the rows of the alphabet table `ALPHA`: alpha<index> (R55)
  | alpha0 | alpha1 | alpha2 | alpha3 | alpha4 | alpha5 | alpha6 | alpha7
  | alpha8 | alpha9 | alpha10 | alpha11 | alpha12 | alpha13 | alpha14 | alpha15
  | alpha16 | alpha17 | alpha18 | alpha19 | alpha20 | alpha21 | alpha22 | alpha23
  | alpha24 | alpha25 | alpha26 | alpha27 | alpha28 | alpha29 | alpha30 | alpha31
  | alpha32 | alpha33 | alpha34 | alpha35 | alpha36 | alpha37 | alpha38 | alpha39
  | alpha40 | alpha41 | alpha42 | alpha43 | alpha44 | alpha45 | alpha46 | alpha47
  | alpha48 | alpha49 | alpha50 | alpha51 | alpha52 | alpha53 | alpha54 | alpha55
  | alpha56 | alpha57 | alpha58 | alpha59 | alpha60 | alpha61 | alpha62 | alpha63
  -- the rows of the reverse lookup table `RLUT`: rlut<character code, two hexadecimal digits> (R62)
  | rlut00 | rlut01 | rlut02 | rlut03 | rlut04 | rlut05 | rlut06 | rlut07
  | rlut08 | rlut09 | rlut0A | rlut0B | rlut0C | rlut0D | rlut0E | rlut0F
  | rlut10 | rlut11 | rlut12 | rlut13 | rlut14 | rlut15 | rlut16 | rlut17
  | rlut18 | rlut19 | rlut1A | rlut1B | rlut1C | rlut1D | rlut1E | rlut1F
  | rlut20 | rlut21 | rlut22 | rlut23 | rlut24 | rlut25 | rlut26 | rlut27
  | rlut28 | rlut29 | rlut2A | rlut2B | rlut2C | rlut2D | rlut2E | rlut2F
  | rlut30 | rlut31 | rlut32 | rlut33 | rlut34 | rlut35 | rlut36 | rlut37
  | rlut38 | rlut39 | rlut3A | rlut3B | rlut3C | rlut3D | rlut3E | rlut3F
  | rlut40 | rlut41 | rlut42 | rlut43 | rlut44 | rlut45 | rlut46 | rlut47
  | rlut48 | rlut49 | rlut4A | rlut4B | rlut4C | rlut4D | rlut4E | rlut4F
  | rlut50 | rlut51 | rlut52 | rlut53 | rlut54 | rlut55 | rlut56 | rlut57
  | rlut58 | rlut59 | rlut5A | rlut5B | rlut5C | rlut5D | rlut5E | rlut5F
  | rlut60 | rlut61 | rlut62 | rlut63 | rlut64 | rlut65 | rlut66 | rlut67
  | rlut68 | rlut69 | rlut6A | rlut6B | rlut6C | rlut6D | rlut6E | rlut6F
  | rlut70 | rlut71 | rlut72 | rlut73 | rlut74 | rlut75 | rlut76 | rlut77
  | rlut78 | rlut79 | rlut7A | rlut7B | rlut7C | rlut7D | rlut7E | rlut7F
  | rlut80 | rlut81 | rlut82 | rlut83 | rlut84 | rlut85 | rlut86 | rlut87
  | rlut88 | rlut89 | rlut8A | rlut8B | rlut8C | rlut8D | rlut8E | rlut8F
  | rlut90 | rlut91 | rlut92 | rlut93 | rlut94 | rlut95 | rlut96 | rlut97
  | rlut98 | rlut99 | rlut9A | rlut9B | rlut9C | rlut9D | rlut9E | rlut9F
  | rlutA0 | rlutA1 | rlutA2 | rlutA3 | rlutA4 | rlutA5 | rlutA6 | rlutA7
  | rlutA8 | rlutA9 | rlutAA | rlutAB | rlutAC | rlutAD | rlutAE | rlutAF
  | rlutB0 | rlutB1 | rlutB2 | rlutB3 | rlutB4 | rlutB5 | rlutB6 | rlutB7
  | rlutB8 | rlutB9 | rlutBA | rlutBB | rlutBC | rlutBD | rlutBE | rlutBF
  | rlutC0 | rlutC1 | rlutC2 | rlutC3 | rlutC4 | rlutC5 | rlutC6 | rlutC7
  | rlutC8 | rlutC9 | rlutCA | rlutCB | rlutCC | rlutCD | rlutCE | rlutCF
  | rlutD0 | rlutD1 | rlutD2 | rlutD3 | rlutD4 | rlutD5 | rlutD6 | rlutD7
  | rlutD8 | rlutD9 | rlutDA | rlutDB | rlutDC | rlutDD | rlutDE | rlutDF
  | rlutE0 | rlutE1 | rlutE2 | rlutE3 | rlutE4 | rlutE5 | rlutE6 | rlutE7
  | rlutE8 | rlutE9 | rlutEA | rlutEB | rlutEC | rlutED | rlutEE | rlutEF
  | rlutF0 | rlutF1 | rlutF2 | rlutF3 | rlutF4 | rlutF5 | rlutF6 | rlutF7
  | rlutF8 | rlutF9 | rlutFA | rlutFB | rlutFC | rlutFD | rlutFE | rlutFF
  deriving DecidableEq, Repr

end Sys2Proof
end

