-- ==== Sys2Proof/Machine/Dispatch.lean ====
section
/-!
DEFINITION. Which meaning each row of the opcode table has: one arm per constructor of `Instr`, one direct call each.
-/

namespace Sys2Proof.Machine

def exec (i : Instr) (s : State) : Host.Outcome State Fault Refusal :=
  match i with
  | .encode => Sys2Proof.Machine.execEncode s
  | .decode => Sys2Proof.Machine.execDecode s
  | .encStart => Sys2Proof.Machine.execEncStart s
  | .decStart => Sys2Proof.Machine.execDecStart s
  | .encG3 => Sys2Proof.Machine.execEncG3 s
  | .encT2 => Sys2Proof.Machine.execEncT2 s
  | .encT1 => Sys2Proof.Machine.execEncT1 s
  | .encT0 => Sys2Proof.Machine.execEncT0 s
  | .decEnd0 => Sys2Proof.Machine.execDecEnd0 s
  | .decFailB => Sys2Proof.Machine.execDecFailB s
  | .decFailC => Sys2Proof.Machine.execDecFailC s
  | .decFailD => Sys2Proof.Machine.execDecFailD s
  | .decFailDP => Sys2Proof.Machine.execDecFailDP s
  | .decFailPD => Sys2Proof.Machine.execDecFailPD s
  | .decEnd1 => Sys2Proof.Machine.execDecEnd1 s
  | .decEnd2 => Sys2Proof.Machine.execDecEnd2 s
  | .decFull => Sys2Proof.Machine.execDecFull s
  | .decFetch k => Sys2Proof.Machine.execDecFetch k s
  | .decShift v => Sys2Proof.Machine.execDecShift v s
  | .decEmit1 => Sys2Proof.Machine.execDecEmit1 s
  | .decEmit2 => Sys2Proof.Machine.execDecEmit2 s
  | .alpha0 => Sys2Proof.Machine.execAlpha0 s
  | .alpha1 => Sys2Proof.Machine.execAlpha1 s
  | .alpha2 => Sys2Proof.Machine.execAlpha2 s
  | .alpha3 => Sys2Proof.Machine.execAlpha3 s
  | .alpha4 => Sys2Proof.Machine.execAlpha4 s
  | .alpha5 => Sys2Proof.Machine.execAlpha5 s
  | .alpha6 => Sys2Proof.Machine.execAlpha6 s
  | .alpha7 => Sys2Proof.Machine.execAlpha7 s
  | .alpha8 => Sys2Proof.Machine.execAlpha8 s
  | .alpha9 => Sys2Proof.Machine.execAlpha9 s
  | .alpha10 => Sys2Proof.Machine.execAlpha10 s
  | .alpha11 => Sys2Proof.Machine.execAlpha11 s
  | .alpha12 => Sys2Proof.Machine.execAlpha12 s
  | .alpha13 => Sys2Proof.Machine.execAlpha13 s
  | .alpha14 => Sys2Proof.Machine.execAlpha14 s
  | .alpha15 => Sys2Proof.Machine.execAlpha15 s
  | .alpha16 => Sys2Proof.Machine.execAlpha16 s
  | .alpha17 => Sys2Proof.Machine.execAlpha17 s
  | .alpha18 => Sys2Proof.Machine.execAlpha18 s
  | .alpha19 => Sys2Proof.Machine.execAlpha19 s
  | .alpha20 => Sys2Proof.Machine.execAlpha20 s
  | .alpha21 => Sys2Proof.Machine.execAlpha21 s
  | .alpha22 => Sys2Proof.Machine.execAlpha22 s
  | .alpha23 => Sys2Proof.Machine.execAlpha23 s
  | .alpha24 => Sys2Proof.Machine.execAlpha24 s
  | .alpha25 => Sys2Proof.Machine.execAlpha25 s
  | .alpha26 => Sys2Proof.Machine.execAlpha26 s
  | .alpha27 => Sys2Proof.Machine.execAlpha27 s
  | .alpha28 => Sys2Proof.Machine.execAlpha28 s
  | .alpha29 => Sys2Proof.Machine.execAlpha29 s
  | .alpha30 => Sys2Proof.Machine.execAlpha30 s
  | .alpha31 => Sys2Proof.Machine.execAlpha31 s
  | .alpha32 => Sys2Proof.Machine.execAlpha32 s
  | .alpha33 => Sys2Proof.Machine.execAlpha33 s
  | .alpha34 => Sys2Proof.Machine.execAlpha34 s
  | .alpha35 => Sys2Proof.Machine.execAlpha35 s
  | .alpha36 => Sys2Proof.Machine.execAlpha36 s
  | .alpha37 => Sys2Proof.Machine.execAlpha37 s
  | .alpha38 => Sys2Proof.Machine.execAlpha38 s
  | .alpha39 => Sys2Proof.Machine.execAlpha39 s
  | .alpha40 => Sys2Proof.Machine.execAlpha40 s
  | .alpha41 => Sys2Proof.Machine.execAlpha41 s
  | .alpha42 => Sys2Proof.Machine.execAlpha42 s
  | .alpha43 => Sys2Proof.Machine.execAlpha43 s
  | .alpha44 => Sys2Proof.Machine.execAlpha44 s
  | .alpha45 => Sys2Proof.Machine.execAlpha45 s
  | .alpha46 => Sys2Proof.Machine.execAlpha46 s
  | .alpha47 => Sys2Proof.Machine.execAlpha47 s
  | .alpha48 => Sys2Proof.Machine.execAlpha48 s
  | .alpha49 => Sys2Proof.Machine.execAlpha49 s
  | .alpha50 => Sys2Proof.Machine.execAlpha50 s
  | .alpha51 => Sys2Proof.Machine.execAlpha51 s
  | .alpha52 => Sys2Proof.Machine.execAlpha52 s
  | .alpha53 => Sys2Proof.Machine.execAlpha53 s
  | .alpha54 => Sys2Proof.Machine.execAlpha54 s
  | .alpha55 => Sys2Proof.Machine.execAlpha55 s
  | .alpha56 => Sys2Proof.Machine.execAlpha56 s
  | .alpha57 => Sys2Proof.Machine.execAlpha57 s
  | .alpha58 => Sys2Proof.Machine.execAlpha58 s
  | .alpha59 => Sys2Proof.Machine.execAlpha59 s
  | .alpha60 => Sys2Proof.Machine.execAlpha60 s
  | .alpha61 => Sys2Proof.Machine.execAlpha61 s
  | .alpha62 => Sys2Proof.Machine.execAlpha62 s
  | .alpha63 => Sys2Proof.Machine.execAlpha63 s
  | .rlut00 => Sys2Proof.Machine.execRlut00 s
  | .rlut01 => Sys2Proof.Machine.execRlut01 s
  | .rlut02 => Sys2Proof.Machine.execRlut02 s
  | .rlut03 => Sys2Proof.Machine.execRlut03 s
  | .rlut04 => Sys2Proof.Machine.execRlut04 s
  | .rlut05 => Sys2Proof.Machine.execRlut05 s
  | .rlut06 => Sys2Proof.Machine.execRlut06 s
  | .rlut07 => Sys2Proof.Machine.execRlut07 s
  | .rlut08 => Sys2Proof.Machine.execRlut08 s
  | .rlut09 => Sys2Proof.Machine.execRlut09 s
  | .rlut0A => Sys2Proof.Machine.execRlut0A s
  | .rlut0B => Sys2Proof.Machine.execRlut0B s
  | .rlut0C => Sys2Proof.Machine.execRlut0C s
  | .rlut0D => Sys2Proof.Machine.execRlut0D s
  | .rlut0E => Sys2Proof.Machine.execRlut0E s
  | .rlut0F => Sys2Proof.Machine.execRlut0F s
  | .rlut10 => Sys2Proof.Machine.execRlut10 s
  | .rlut11 => Sys2Proof.Machine.execRlut11 s
  | .rlut12 => Sys2Proof.Machine.execRlut12 s
  | .rlut13 => Sys2Proof.Machine.execRlut13 s
  | .rlut14 => Sys2Proof.Machine.execRlut14 s
  | .rlut15 => Sys2Proof.Machine.execRlut15 s
  | .rlut16 => Sys2Proof.Machine.execRlut16 s
  | .rlut17 => Sys2Proof.Machine.execRlut17 s
  | .rlut18 => Sys2Proof.Machine.execRlut18 s
  | .rlut19 => Sys2Proof.Machine.execRlut19 s
  | .rlut1A => Sys2Proof.Machine.execRlut1A s
  | .rlut1B => Sys2Proof.Machine.execRlut1B s
  | .rlut1C => Sys2Proof.Machine.execRlut1C s
  | .rlut1D => Sys2Proof.Machine.execRlut1D s
  | .rlut1E => Sys2Proof.Machine.execRlut1E s
  | .rlut1F => Sys2Proof.Machine.execRlut1F s
  | .rlut20 => Sys2Proof.Machine.execRlut20 s
  | .rlut21 => Sys2Proof.Machine.execRlut21 s
  | .rlut22 => Sys2Proof.Machine.execRlut22 s
  | .rlut23 => Sys2Proof.Machine.execRlut23 s
  | .rlut24 => Sys2Proof.Machine.execRlut24 s
  | .rlut25 => Sys2Proof.Machine.execRlut25 s
  | .rlut26 => Sys2Proof.Machine.execRlut26 s
  | .rlut27 => Sys2Proof.Machine.execRlut27 s
  | .rlut28 => Sys2Proof.Machine.execRlut28 s
  | .rlut29 => Sys2Proof.Machine.execRlut29 s
  | .rlut2A => Sys2Proof.Machine.execRlut2A s
  | .rlut2B => Sys2Proof.Machine.execRlut2B s
  | .rlut2C => Sys2Proof.Machine.execRlut2C s
  | .rlut2D => Sys2Proof.Machine.execRlut2D s
  | .rlut2E => Sys2Proof.Machine.execRlut2E s
  | .rlut2F => Sys2Proof.Machine.execRlut2F s
  | .rlut30 => Sys2Proof.Machine.execRlut30 s
  | .rlut31 => Sys2Proof.Machine.execRlut31 s
  | .rlut32 => Sys2Proof.Machine.execRlut32 s
  | .rlut33 => Sys2Proof.Machine.execRlut33 s
  | .rlut34 => Sys2Proof.Machine.execRlut34 s
  | .rlut35 => Sys2Proof.Machine.execRlut35 s
  | .rlut36 => Sys2Proof.Machine.execRlut36 s
  | .rlut37 => Sys2Proof.Machine.execRlut37 s
  | .rlut38 => Sys2Proof.Machine.execRlut38 s
  | .rlut39 => Sys2Proof.Machine.execRlut39 s
  | .rlut3A => Sys2Proof.Machine.execRlut3A s
  | .rlut3B => Sys2Proof.Machine.execRlut3B s
  | .rlut3C => Sys2Proof.Machine.execRlut3C s
  | .rlut3D => Sys2Proof.Machine.execRlut3D s
  | .rlut3E => Sys2Proof.Machine.execRlut3E s
  | .rlut3F => Sys2Proof.Machine.execRlut3F s
  | .rlut40 => Sys2Proof.Machine.execRlut40 s
  | .rlut41 => Sys2Proof.Machine.execRlut41 s
  | .rlut42 => Sys2Proof.Machine.execRlut42 s
  | .rlut43 => Sys2Proof.Machine.execRlut43 s
  | .rlut44 => Sys2Proof.Machine.execRlut44 s
  | .rlut45 => Sys2Proof.Machine.execRlut45 s
  | .rlut46 => Sys2Proof.Machine.execRlut46 s
  | .rlut47 => Sys2Proof.Machine.execRlut47 s
  | .rlut48 => Sys2Proof.Machine.execRlut48 s
  | .rlut49 => Sys2Proof.Machine.execRlut49 s
  | .rlut4A => Sys2Proof.Machine.execRlut4A s
  | .rlut4B => Sys2Proof.Machine.execRlut4B s
  | .rlut4C => Sys2Proof.Machine.execRlut4C s
  | .rlut4D => Sys2Proof.Machine.execRlut4D s
  | .rlut4E => Sys2Proof.Machine.execRlut4E s
  | .rlut4F => Sys2Proof.Machine.execRlut4F s
  | .rlut50 => Sys2Proof.Machine.execRlut50 s
  | .rlut51 => Sys2Proof.Machine.execRlut51 s
  | .rlut52 => Sys2Proof.Machine.execRlut52 s
  | .rlut53 => Sys2Proof.Machine.execRlut53 s
  | .rlut54 => Sys2Proof.Machine.execRlut54 s
  | .rlut55 => Sys2Proof.Machine.execRlut55 s
  | .rlut56 => Sys2Proof.Machine.execRlut56 s
  | .rlut57 => Sys2Proof.Machine.execRlut57 s
  | .rlut58 => Sys2Proof.Machine.execRlut58 s
  | .rlut59 => Sys2Proof.Machine.execRlut59 s
  | .rlut5A => Sys2Proof.Machine.execRlut5A s
  | .rlut5B => Sys2Proof.Machine.execRlut5B s
  | .rlut5C => Sys2Proof.Machine.execRlut5C s
  | .rlut5D => Sys2Proof.Machine.execRlut5D s
  | .rlut5E => Sys2Proof.Machine.execRlut5E s
  | .rlut5F => Sys2Proof.Machine.execRlut5F s
  | .rlut60 => Sys2Proof.Machine.execRlut60 s
  | .rlut61 => Sys2Proof.Machine.execRlut61 s
  | .rlut62 => Sys2Proof.Machine.execRlut62 s
  | .rlut63 => Sys2Proof.Machine.execRlut63 s
  | .rlut64 => Sys2Proof.Machine.execRlut64 s
  | .rlut65 => Sys2Proof.Machine.execRlut65 s
  | .rlut66 => Sys2Proof.Machine.execRlut66 s
  | .rlut67 => Sys2Proof.Machine.execRlut67 s
  | .rlut68 => Sys2Proof.Machine.execRlut68 s
  | .rlut69 => Sys2Proof.Machine.execRlut69 s
  | .rlut6A => Sys2Proof.Machine.execRlut6A s
  | .rlut6B => Sys2Proof.Machine.execRlut6B s
  | .rlut6C => Sys2Proof.Machine.execRlut6C s
  | .rlut6D => Sys2Proof.Machine.execRlut6D s
  | .rlut6E => Sys2Proof.Machine.execRlut6E s
  | .rlut6F => Sys2Proof.Machine.execRlut6F s
  | .rlut70 => Sys2Proof.Machine.execRlut70 s
  | .rlut71 => Sys2Proof.Machine.execRlut71 s
  | .rlut72 => Sys2Proof.Machine.execRlut72 s
  | .rlut73 => Sys2Proof.Machine.execRlut73 s
  | .rlut74 => Sys2Proof.Machine.execRlut74 s
  | .rlut75 => Sys2Proof.Machine.execRlut75 s
  | .rlut76 => Sys2Proof.Machine.execRlut76 s
  | .rlut77 => Sys2Proof.Machine.execRlut77 s
  | .rlut78 => Sys2Proof.Machine.execRlut78 s
  | .rlut79 => Sys2Proof.Machine.execRlut79 s
  | .rlut7A => Sys2Proof.Machine.execRlut7A s
  | .rlut7B => Sys2Proof.Machine.execRlut7B s
  | .rlut7C => Sys2Proof.Machine.execRlut7C s
  | .rlut7D => Sys2Proof.Machine.execRlut7D s
  | .rlut7E => Sys2Proof.Machine.execRlut7E s
  | .rlut7F => Sys2Proof.Machine.execRlut7F s
  | .rlut80 => Sys2Proof.Machine.execRlut80 s
  | .rlut81 => Sys2Proof.Machine.execRlut81 s
  | .rlut82 => Sys2Proof.Machine.execRlut82 s
  | .rlut83 => Sys2Proof.Machine.execRlut83 s
  | .rlut84 => Sys2Proof.Machine.execRlut84 s
  | .rlut85 => Sys2Proof.Machine.execRlut85 s
  | .rlut86 => Sys2Proof.Machine.execRlut86 s
  | .rlut87 => Sys2Proof.Machine.execRlut87 s
  | .rlut88 => Sys2Proof.Machine.execRlut88 s
  | .rlut89 => Sys2Proof.Machine.execRlut89 s
  | .rlut8A => Sys2Proof.Machine.execRlut8A s
  | .rlut8B => Sys2Proof.Machine.execRlut8B s
  | .rlut8C => Sys2Proof.Machine.execRlut8C s
  | .rlut8D => Sys2Proof.Machine.execRlut8D s
  | .rlut8E => Sys2Proof.Machine.execRlut8E s
  | .rlut8F => Sys2Proof.Machine.execRlut8F s
  | .rlut90 => Sys2Proof.Machine.execRlut90 s
  | .rlut91 => Sys2Proof.Machine.execRlut91 s
  | .rlut92 => Sys2Proof.Machine.execRlut92 s
  | .rlut93 => Sys2Proof.Machine.execRlut93 s
  | .rlut94 => Sys2Proof.Machine.execRlut94 s
  | .rlut95 => Sys2Proof.Machine.execRlut95 s
  | .rlut96 => Sys2Proof.Machine.execRlut96 s
  | .rlut97 => Sys2Proof.Machine.execRlut97 s
  | .rlut98 => Sys2Proof.Machine.execRlut98 s
  | .rlut99 => Sys2Proof.Machine.execRlut99 s
  | .rlut9A => Sys2Proof.Machine.execRlut9A s
  | .rlut9B => Sys2Proof.Machine.execRlut9B s
  | .rlut9C => Sys2Proof.Machine.execRlut9C s
  | .rlut9D => Sys2Proof.Machine.execRlut9D s
  | .rlut9E => Sys2Proof.Machine.execRlut9E s
  | .rlut9F => Sys2Proof.Machine.execRlut9F s
  | .rlutA0 => Sys2Proof.Machine.execRlutA0 s
  | .rlutA1 => Sys2Proof.Machine.execRlutA1 s
  | .rlutA2 => Sys2Proof.Machine.execRlutA2 s
  | .rlutA3 => Sys2Proof.Machine.execRlutA3 s
  | .rlutA4 => Sys2Proof.Machine.execRlutA4 s
  | .rlutA5 => Sys2Proof.Machine.execRlutA5 s
  | .rlutA6 => Sys2Proof.Machine.execRlutA6 s
  | .rlutA7 => Sys2Proof.Machine.execRlutA7 s
  | .rlutA8 => Sys2Proof.Machine.execRlutA8 s
  | .rlutA9 => Sys2Proof.Machine.execRlutA9 s
  | .rlutAA => Sys2Proof.Machine.execRlutAA s
  | .rlutAB => Sys2Proof.Machine.execRlutAB s
  | .rlutAC => Sys2Proof.Machine.execRlutAC s
  | .rlutAD => Sys2Proof.Machine.execRlutAD s
  | .rlutAE => Sys2Proof.Machine.execRlutAE s
  | .rlutAF => Sys2Proof.Machine.execRlutAF s
  | .rlutB0 => Sys2Proof.Machine.execRlutB0 s
  | .rlutB1 => Sys2Proof.Machine.execRlutB1 s
  | .rlutB2 => Sys2Proof.Machine.execRlutB2 s
  | .rlutB3 => Sys2Proof.Machine.execRlutB3 s
  | .rlutB4 => Sys2Proof.Machine.execRlutB4 s
  | .rlutB5 => Sys2Proof.Machine.execRlutB5 s
  | .rlutB6 => Sys2Proof.Machine.execRlutB6 s
  | .rlutB7 => Sys2Proof.Machine.execRlutB7 s
  | .rlutB8 => Sys2Proof.Machine.execRlutB8 s
  | .rlutB9 => Sys2Proof.Machine.execRlutB9 s
  | .rlutBA => Sys2Proof.Machine.execRlutBA s
  | .rlutBB => Sys2Proof.Machine.execRlutBB s
  | .rlutBC => Sys2Proof.Machine.execRlutBC s
  | .rlutBD => Sys2Proof.Machine.execRlutBD s
  | .rlutBE => Sys2Proof.Machine.execRlutBE s
  | .rlutBF => Sys2Proof.Machine.execRlutBF s
  | .rlutC0 => Sys2Proof.Machine.execRlutC0 s
  | .rlutC1 => Sys2Proof.Machine.execRlutC1 s
  | .rlutC2 => Sys2Proof.Machine.execRlutC2 s
  | .rlutC3 => Sys2Proof.Machine.execRlutC3 s
  | .rlutC4 => Sys2Proof.Machine.execRlutC4 s
  | .rlutC5 => Sys2Proof.Machine.execRlutC5 s
  | .rlutC6 => Sys2Proof.Machine.execRlutC6 s
  | .rlutC7 => Sys2Proof.Machine.execRlutC7 s
  | .rlutC8 => Sys2Proof.Machine.execRlutC8 s
  | .rlutC9 => Sys2Proof.Machine.execRlutC9 s
  | .rlutCA => Sys2Proof.Machine.execRlutCA s
  | .rlutCB => Sys2Proof.Machine.execRlutCB s
  | .rlutCC => Sys2Proof.Machine.execRlutCC s
  | .rlutCD => Sys2Proof.Machine.execRlutCD s
  | .rlutCE => Sys2Proof.Machine.execRlutCE s
  | .rlutCF => Sys2Proof.Machine.execRlutCF s
  | .rlutD0 => Sys2Proof.Machine.execRlutD0 s
  | .rlutD1 => Sys2Proof.Machine.execRlutD1 s
  | .rlutD2 => Sys2Proof.Machine.execRlutD2 s
  | .rlutD3 => Sys2Proof.Machine.execRlutD3 s
  | .rlutD4 => Sys2Proof.Machine.execRlutD4 s
  | .rlutD5 => Sys2Proof.Machine.execRlutD5 s
  | .rlutD6 => Sys2Proof.Machine.execRlutD6 s
  | .rlutD7 => Sys2Proof.Machine.execRlutD7 s
  | .rlutD8 => Sys2Proof.Machine.execRlutD8 s
  | .rlutD9 => Sys2Proof.Machine.execRlutD9 s
  | .rlutDA => Sys2Proof.Machine.execRlutDA s
  | .rlutDB => Sys2Proof.Machine.execRlutDB s
  | .rlutDC => Sys2Proof.Machine.execRlutDC s
  | .rlutDD => Sys2Proof.Machine.execRlutDD s
  | .rlutDE => Sys2Proof.Machine.execRlutDE s
  | .rlutDF => Sys2Proof.Machine.execRlutDF s
  | .rlutE0 => Sys2Proof.Machine.execRlutE0 s
  | .rlutE1 => Sys2Proof.Machine.execRlutE1 s
  | .rlutE2 => Sys2Proof.Machine.execRlutE2 s
  | .rlutE3 => Sys2Proof.Machine.execRlutE3 s
  | .rlutE4 => Sys2Proof.Machine.execRlutE4 s
  | .rlutE5 => Sys2Proof.Machine.execRlutE5 s
  | .rlutE6 => Sys2Proof.Machine.execRlutE6 s
  | .rlutE7 => Sys2Proof.Machine.execRlutE7 s
  | .rlutE8 => Sys2Proof.Machine.execRlutE8 s
  | .rlutE9 => Sys2Proof.Machine.execRlutE9 s
  | .rlutEA => Sys2Proof.Machine.execRlutEA s
  | .rlutEB => Sys2Proof.Machine.execRlutEB s
  | .rlutEC => Sys2Proof.Machine.execRlutEC s
  | .rlutED => Sys2Proof.Machine.execRlutED s
  | .rlutEE => Sys2Proof.Machine.execRlutEE s
  | .rlutEF => Sys2Proof.Machine.execRlutEF s
  | .rlutF0 => Sys2Proof.Machine.execRlutF0 s
  | .rlutF1 => Sys2Proof.Machine.execRlutF1 s
  | .rlutF2 => Sys2Proof.Machine.execRlutF2 s
  | .rlutF3 => Sys2Proof.Machine.execRlutF3 s
  | .rlutF4 => Sys2Proof.Machine.execRlutF4 s
  | .rlutF5 => Sys2Proof.Machine.execRlutF5 s
  | .rlutF6 => Sys2Proof.Machine.execRlutF6 s
  | .rlutF7 => Sys2Proof.Machine.execRlutF7 s
  | .rlutF8 => Sys2Proof.Machine.execRlutF8 s
  | .rlutF9 => Sys2Proof.Machine.execRlutF9 s
  | .rlutFA => Sys2Proof.Machine.execRlutFA s
  | .rlutFB => Sys2Proof.Machine.execRlutFB s
  | .rlutFC => Sys2Proof.Machine.execRlutFC s
  | .rlutFD => Sys2Proof.Machine.execRlutFD s
  | .rlutFE => Sys2Proof.Machine.execRlutFE s
  | .rlutFF => Sys2Proof.Machine.execRlutFF s

end Sys2Proof.Machine
end

