-- ==== Sys2Proof/Decode.lean ====
section
/-!
DEFINITION. Which row of the opcode table a word selects, and the word of each row (30_encoding.md R63, R64, R65, R66;
opcode_table.json). Each format has a decoder of its own, since the formats' words overlap as bare numbers; a record in memory
or on the request channel is two bytes, the word and then the number of its format (the model's own layout: notes/assumptions/11,
DESIGN CHOICE, safe). The number 0 marks a word of no named format, which is read as notes/assumptions/12 says.
-/

namespace Sys2Proof

/-- Why bytes select no row. -/
inductive DecodeError where
  /-- the record ends before its format number: fewer than two bytes -/
  | truncated
  /-- no format has this number -/
  | noFormat (tag : Byte)
  /-- the word selects no row of the format (R65 (b), and the other values of `{start, busy}` in R71 and R86) -/
  | noRow (f : Format)
  /-- a word of no named format that is the word of no row -/
  | noBareRow
  deriving DecidableEq, Repr

/-! ## The formats, one decoder each -/

/-- `op = 0` is `ENCODE`, `op = 1` is `DECODE` (R66). -/
def decodeCmd (b : Byte) : Except DecodeError Instr :=
  if b = 0#8 then .ok .encode else if b = 1#8 then .ok .decode else .error (.noRow .cmd)

/-- `{enc_start, E.busy} = 10` accepts an `ENCODE` (R71). -/
def decodeCtrlEnc (b : Byte) : Except DecodeError Instr :=
  if b = 0b10#8 then .ok .encStart else .error (.noRow .ctrlEnc)

/-- `{dec_start, D.busy} = 10` accepts a `DECODE` (R86). -/
def decodeCtrlDec (b : Byte) : Except DecodeError Instr :=
  if b = 0b10#8 then .ok .decStart else .error (.noRow .ctrlDec)

/-- The encoder action map: `m = min(E.rem, 3)` (R64). -/
def decodeEncAct (b : Byte) : Except DecodeError Instr :=
  if b = 0b11#8 then .ok .encG3
  else if b = 0b10#8 then .ok .encT2
  else if b = 0b01#8 then .ok .encT1
  else if b = 0b00#8 then .ok .encT0
  else .error (.noRow .encAct)

/-- A row of the decoder action map: the bits examined, their values, the action. -/
structure DecActRow where
  mask    : Byte
  pattern : Byte
  action  : Instr
  deriving DecidableEq, Repr

/-- Does the word select the row? Bits outside the mask belong to characters that are not fetched. -/
def DecActRow.selects (r : DecActRow) (b : Byte) : Bool :=
  b &&& r.mask == r.pattern

/-- The decoder action map, class codes `aabbccdd`, first character in the two most significant bits (R63). -/
def decActRows : List DecActRow :=
  [⟨0x80#8, 0x80#8, .decEnd0⟩,
   ⟨0xE0#8, 0x20#8, .decFailB⟩,
   ⟨0xFC#8, 0x08#8, .decFailC⟩,
   ⟨0xFF#8, 0x02#8, .decFailD⟩,
   ⟨0xFF#8, 0x0E#8, .decFailDP⟩] ++
  [⟨0xFF#8, 0x0C#8, .decFailPD⟩,
   ⟨0xFF#8, 0x0F#8, .decEnd1⟩,
   ⟨0xFF#8, 0x03#8, .decEnd2⟩,
   ⟨0xFF#8, 0x00#8, .decFull⟩]

/-- The action a pattern of class codes selects (R63); a pattern with the reserved code `01` in a fetched place selects none (R65). -/
def decodeDecAct (b : Byte) : Except DecodeError Instr :=
  match decActRows.find? (fun r => r.selects b) with
  | some r => .ok r.action
  | none => .error (.noRow .decAct)

/-- `kk` is the character index of `DEC.FETCH` (R87). -/
def decodeDecFetch (b : Byte) : Except DecodeError Instr :=
  if b.toNat < 4 then .ok (.decFetch b.toNat) else .error (.noRow .decFetch)

/-- `vvvvvv` is the sextet of `DEC.SHIFT` (R88). -/
def decodeDecShift (b : Byte) : Except DecodeError Instr :=
  if b.toNat < 64 then .ok (.decShift (BitVec.ofNat 6 b.toNat)) else .error (.noRow .decShift)

/-- `DEC.EMIT1` has no field (R91): its word is empty. -/
def decodeDecEmit1 (b : Byte) : Except DecodeError Instr :=
  if b = 0#8 then .ok .decEmit1 else .error (.noRow .decEmit1)

/-- `DEC.EMIT2` has no field (R97): its word is empty. -/
def decodeDecEmit2 (b : Byte) : Except DecodeError Instr :=
  if b = 0#8 then .ok .decEmit2 else .error (.noRow .decEmit2)

/-- The rows of `ALPHA` by index (R55). -/
def alphaInstrs : List Instr :=
  [Instr.alpha0, Instr.alpha1, Instr.alpha2, Instr.alpha3, Instr.alpha4, Instr.alpha5, Instr.alpha6, Instr.alpha7] ++
  [Instr.alpha8, Instr.alpha9, Instr.alpha10, Instr.alpha11, Instr.alpha12, Instr.alpha13, Instr.alpha14, Instr.alpha15] ++
  [Instr.alpha16, Instr.alpha17, Instr.alpha18, Instr.alpha19, Instr.alpha20, Instr.alpha21, Instr.alpha22, Instr.alpha23] ++
  [Instr.alpha24, Instr.alpha25, Instr.alpha26, Instr.alpha27, Instr.alpha28, Instr.alpha29, Instr.alpha30, Instr.alpha31] ++
  [Instr.alpha32, Instr.alpha33, Instr.alpha34, Instr.alpha35, Instr.alpha36, Instr.alpha37, Instr.alpha38, Instr.alpha39] ++
  [Instr.alpha40, Instr.alpha41, Instr.alpha42, Instr.alpha43, Instr.alpha44, Instr.alpha45, Instr.alpha46, Instr.alpha47] ++
  [Instr.alpha48, Instr.alpha49, Instr.alpha50, Instr.alpha51, Instr.alpha52, Instr.alpha53, Instr.alpha54, Instr.alpha55] ++
  [Instr.alpha56, Instr.alpha57, Instr.alpha58, Instr.alpha59, Instr.alpha60, Instr.alpha61, Instr.alpha62, Instr.alpha63]

/-- The rows of `RLUT` by character code (R62). -/
def rlutInstrs : List Instr :=
  [Instr.rlut00, Instr.rlut01, Instr.rlut02, Instr.rlut03, Instr.rlut04, Instr.rlut05, Instr.rlut06, Instr.rlut07] ++
  [Instr.rlut08, Instr.rlut09, Instr.rlut0A, Instr.rlut0B, Instr.rlut0C, Instr.rlut0D, Instr.rlut0E, Instr.rlut0F] ++
  [Instr.rlut10, Instr.rlut11, Instr.rlut12, Instr.rlut13, Instr.rlut14, Instr.rlut15, Instr.rlut16, Instr.rlut17] ++
  [Instr.rlut18, Instr.rlut19, Instr.rlut1A, Instr.rlut1B, Instr.rlut1C, Instr.rlut1D, Instr.rlut1E, Instr.rlut1F] ++
  [Instr.rlut20, Instr.rlut21, Instr.rlut22, Instr.rlut23, Instr.rlut24, Instr.rlut25, Instr.rlut26, Instr.rlut27] ++
  [Instr.rlut28, Instr.rlut29, Instr.rlut2A, Instr.rlut2B, Instr.rlut2C, Instr.rlut2D, Instr.rlut2E, Instr.rlut2F] ++
  [Instr.rlut30, Instr.rlut31, Instr.rlut32, Instr.rlut33, Instr.rlut34, Instr.rlut35, Instr.rlut36, Instr.rlut37] ++
  [Instr.rlut38, Instr.rlut39, Instr.rlut3A, Instr.rlut3B, Instr.rlut3C, Instr.rlut3D, Instr.rlut3E, Instr.rlut3F] ++
  [Instr.rlut40, Instr.rlut41, Instr.rlut42, Instr.rlut43, Instr.rlut44, Instr.rlut45, Instr.rlut46, Instr.rlut47] ++
  [Instr.rlut48, Instr.rlut49, Instr.rlut4A, Instr.rlut4B, Instr.rlut4C, Instr.rlut4D, Instr.rlut4E, Instr.rlut4F] ++
  [Instr.rlut50, Instr.rlut51, Instr.rlut52, Instr.rlut53, Instr.rlut54, Instr.rlut55, Instr.rlut56, Instr.rlut57] ++
  [Instr.rlut58, Instr.rlut59, Instr.rlut5A, Instr.rlut5B, Instr.rlut5C, Instr.rlut5D, Instr.rlut5E, Instr.rlut5F] ++
  [Instr.rlut60, Instr.rlut61, Instr.rlut62, Instr.rlut63, Instr.rlut64, Instr.rlut65, Instr.rlut66, Instr.rlut67] ++
  [Instr.rlut68, Instr.rlut69, Instr.rlut6A, Instr.rlut6B, Instr.rlut6C, Instr.rlut6D, Instr.rlut6E, Instr.rlut6F] ++
  [Instr.rlut70, Instr.rlut71, Instr.rlut72, Instr.rlut73, Instr.rlut74, Instr.rlut75, Instr.rlut76, Instr.rlut77] ++
  [Instr.rlut78, Instr.rlut79, Instr.rlut7A, Instr.rlut7B, Instr.rlut7C, Instr.rlut7D, Instr.rlut7E, Instr.rlut7F] ++
  [Instr.rlut80, Instr.rlut81, Instr.rlut82, Instr.rlut83, Instr.rlut84, Instr.rlut85, Instr.rlut86, Instr.rlut87] ++
  [Instr.rlut88, Instr.rlut89, Instr.rlut8A, Instr.rlut8B, Instr.rlut8C, Instr.rlut8D, Instr.rlut8E, Instr.rlut8F] ++
  [Instr.rlut90, Instr.rlut91, Instr.rlut92, Instr.rlut93, Instr.rlut94, Instr.rlut95, Instr.rlut96, Instr.rlut97] ++
  [Instr.rlut98, Instr.rlut99, Instr.rlut9A, Instr.rlut9B, Instr.rlut9C, Instr.rlut9D, Instr.rlut9E, Instr.rlut9F] ++
  [Instr.rlutA0, Instr.rlutA1, Instr.rlutA2, Instr.rlutA3, Instr.rlutA4, Instr.rlutA5, Instr.rlutA6, Instr.rlutA7] ++
  [Instr.rlutA8, Instr.rlutA9, Instr.rlutAA, Instr.rlutAB, Instr.rlutAC, Instr.rlutAD, Instr.rlutAE, Instr.rlutAF] ++
  [Instr.rlutB0, Instr.rlutB1, Instr.rlutB2, Instr.rlutB3, Instr.rlutB4, Instr.rlutB5, Instr.rlutB6, Instr.rlutB7] ++
  [Instr.rlutB8, Instr.rlutB9, Instr.rlutBA, Instr.rlutBB, Instr.rlutBC, Instr.rlutBD, Instr.rlutBE, Instr.rlutBF] ++
  [Instr.rlutC0, Instr.rlutC1, Instr.rlutC2, Instr.rlutC3, Instr.rlutC4, Instr.rlutC5, Instr.rlutC6, Instr.rlutC7] ++
  [Instr.rlutC8, Instr.rlutC9, Instr.rlutCA, Instr.rlutCB, Instr.rlutCC, Instr.rlutCD, Instr.rlutCE, Instr.rlutCF] ++
  [Instr.rlutD0, Instr.rlutD1, Instr.rlutD2, Instr.rlutD3, Instr.rlutD4, Instr.rlutD5, Instr.rlutD6, Instr.rlutD7] ++
  [Instr.rlutD8, Instr.rlutD9, Instr.rlutDA, Instr.rlutDB, Instr.rlutDC, Instr.rlutDD, Instr.rlutDE, Instr.rlutDF] ++
  [Instr.rlutE0, Instr.rlutE1, Instr.rlutE2, Instr.rlutE3, Instr.rlutE4, Instr.rlutE5, Instr.rlutE6, Instr.rlutE7] ++
  [Instr.rlutE8, Instr.rlutE9, Instr.rlutEA, Instr.rlutEB, Instr.rlutEC, Instr.rlutED, Instr.rlutEE, Instr.rlutEF] ++
  [Instr.rlutF0, Instr.rlutF1, Instr.rlutF2, Instr.rlutF3, Instr.rlutF4, Instr.rlutF5, Instr.rlutF6, Instr.rlutF7] ++
  [Instr.rlutF8, Instr.rlutF9, Instr.rlutFA, Instr.rlutFB, Instr.rlutFC, Instr.rlutFD, Instr.rlutFE, Instr.rlutFF]

/-- A six-bit index selects its row of `ALPHA` (R55). -/
def decodeAlpha (b : Byte) : Except DecodeError Instr :=
  match alphaInstrs[b.toNat]? with
  | some i => .ok i
  | none => .error (.noRow .alpha)

/-- An eight-bit character code selects its row of `RLUT` (R62). -/
def decodeRlut (b : Byte) : Except DecodeError Instr :=
  match rlutInstrs[b.toNat]? with
  | some i => .ok i
  | none => .error (.noRow .rlut)

/-- The row a word selects in a given format. -/
def decodeAs : Format → Byte → Except DecodeError Instr
  | .cmd => decodeCmd
  | .ctrlEnc => decodeCtrlEnc
  | .ctrlDec => decodeCtrlDec
  | .encAct => decodeEncAct
  | .decAct => decodeDecAct
  | .decFetch => decodeDecFetch
  | .decShift => decodeDecShift
  | .decEmit1 => decodeDecEmit1
  | .decEmit2 => decodeDecEmit2
  | .alpha => decodeAlpha
  | .rlut => decodeRlut

/-! ## Records of two bytes: the word, then the format's number -/

/-- The number of a format in the model's two-byte record (notes/assumptions/11, DESIGN CHOICE). -/
def Format.tag : Format → Byte
  | .cmd => 1#8
  | .ctrlEnc => 2#8
  | .ctrlDec => 3#8
  | .encAct => 4#8
  | .decAct => 5#8
  | .decFetch => 6#8
  | .decShift => 7#8
  | .decEmit1 => 8#8
  | .decEmit2 => 9#8
  | .alpha => 10#8
  | .rlut => 11#8

/-- The format a number names. -/
def formatOfTag (b : Byte) : Option Format :=
  [Format.cmd, .ctrlEnc, .ctrlDec, .encAct, .decAct, .decFetch, .decShift, .decEmit1, .decEmit2, .alpha, .rlut].find?
    (fun f => f.tag == b)

/-- A decoder action whose word, with every unexamined bit 0, is exactly this byte. -/
def decodeDecActExact (b : Byte) : Except DecodeError Instr :=
  match decActRows.find? (fun r => r.pattern == b) with
  | some r => .ok r.action
  | none => .error (.noRow .decAct)

/-- A word of no named format: the first row of opcode_table.json, in the table's order, whose fixed word it is
(notes/assumptions/12, DESIGN CHOICE: the table's formats overlap as bare numbers). -/
def decodeBare (b : Byte) : Except DecodeError Instr :=
  match [decodeCmd b, decodeCtrlEnc b, decodeCtrlDec b, decodeEncAct b, decodeDecActExact b, decodeAlpha b,
      decodeRlut b].findSome? (fun r => r.toOption) with
  | some i => .ok i
  | none => .error .noBareRow

/-- The row that the first two bytes of a list select, and the bytes after them. -/
def decode : List Byte → Except DecodeError (Instr × List Byte)
  | w :: t :: rest =>
    if t = 0#8 then (decodeBare w).map (fun i => (i, rest))
    else
      match formatOfTag t with
      | some f => (decodeAs f w).map (fun i => (i, rest))
      | none => .error (.noFormat t)
  | _ => .error .truncated

/-! ## The encoder -/

/-- A row's format and its word there, unexamined bits 0 (opcode_table.json). -/
def Instr.formatWord (i : Instr) : Format × Byte :=
  match i with
  | .encode => (.cmd, 0x00#8)
  | .decode => (.cmd, 0x01#8)
  | .encStart => (.ctrlEnc, 0x02#8)
  | .decStart => (.ctrlDec, 0x02#8)
  | .encG3 => (.encAct, 0x03#8)
  | .encT2 => (.encAct, 0x02#8)
  | .encT1 => (.encAct, 0x01#8)
  | .encT0 => (.encAct, 0x00#8)
  | .decEnd0 => (.decAct, 0x80#8)
  | .decFailB => (.decAct, 0x20#8)
  | .decFailC => (.decAct, 0x08#8)
  | .decFailD => (.decAct, 0x02#8)
  | .decFailDP => (.decAct, 0x0E#8)
  | .decFailPD => (.decAct, 0x0C#8)
  | .decEnd1 => (.decAct, 0x0F#8)
  | .decEnd2 => (.decAct, 0x03#8)
  | .decFull => (.decAct, 0x00#8)
  | .decFetch k => (.decFetch, BitVec.ofNat 8 k)
  | .decShift v => (.decShift, v.zeroExtend 8)
  | .decEmit1 => (.decEmit1, 0x00#8)
  | .decEmit2 => (.decEmit2, 0x00#8)
  | .alpha0 => (.alpha, 0x00#8)
  | .alpha1 => (.alpha, 0x01#8)
  | .alpha2 => (.alpha, 0x02#8)
  | .alpha3 => (.alpha, 0x03#8)
  | .alpha4 => (.alpha, 0x04#8)
  | .alpha5 => (.alpha, 0x05#8)
  | .alpha6 => (.alpha, 0x06#8)
  | .alpha7 => (.alpha, 0x07#8)
  | .alpha8 => (.alpha, 0x08#8)
  | .alpha9 => (.alpha, 0x09#8)
  | .alpha10 => (.alpha, 0x0A#8)
  | .alpha11 => (.alpha, 0x0B#8)
  | .alpha12 => (.alpha, 0x0C#8)
  | .alpha13 => (.alpha, 0x0D#8)
  | .alpha14 => (.alpha, 0x0E#8)
  | .alpha15 => (.alpha, 0x0F#8)
  | .alpha16 => (.alpha, 0x10#8)
  | .alpha17 => (.alpha, 0x11#8)
  | .alpha18 => (.alpha, 0x12#8)
  | .alpha19 => (.alpha, 0x13#8)
  | .alpha20 => (.alpha, 0x14#8)
  | .alpha21 => (.alpha, 0x15#8)
  | .alpha22 => (.alpha, 0x16#8)
  | .alpha23 => (.alpha, 0x17#8)
  | .alpha24 => (.alpha, 0x18#8)
  | .alpha25 => (.alpha, 0x19#8)
  | .alpha26 => (.alpha, 0x1A#8)
  | .alpha27 => (.alpha, 0x1B#8)
  | .alpha28 => (.alpha, 0x1C#8)
  | .alpha29 => (.alpha, 0x1D#8)
  | .alpha30 => (.alpha, 0x1E#8)
  | .alpha31 => (.alpha, 0x1F#8)
  | .alpha32 => (.alpha, 0x20#8)
  | .alpha33 => (.alpha, 0x21#8)
  | .alpha34 => (.alpha, 0x22#8)
  | .alpha35 => (.alpha, 0x23#8)
  | .alpha36 => (.alpha, 0x24#8)
  | .alpha37 => (.alpha, 0x25#8)
  | .alpha38 => (.alpha, 0x26#8)
  | .alpha39 => (.alpha, 0x27#8)
  | .alpha40 => (.alpha, 0x28#8)
  | .alpha41 => (.alpha, 0x29#8)
  | .alpha42 => (.alpha, 0x2A#8)
  | .alpha43 => (.alpha, 0x2B#8)
  | .alpha44 => (.alpha, 0x2C#8)
  | .alpha45 => (.alpha, 0x2D#8)
  | .alpha46 => (.alpha, 0x2E#8)
  | .alpha47 => (.alpha, 0x2F#8)
  | .alpha48 => (.alpha, 0x30#8)
  | .alpha49 => (.alpha, 0x31#8)
  | .alpha50 => (.alpha, 0x32#8)
  | .alpha51 => (.alpha, 0x33#8)
  | .alpha52 => (.alpha, 0x34#8)
  | .alpha53 => (.alpha, 0x35#8)
  | .alpha54 => (.alpha, 0x36#8)
  | .alpha55 => (.alpha, 0x37#8)
  | .alpha56 => (.alpha, 0x38#8)
  | .alpha57 => (.alpha, 0x39#8)
  | .alpha58 => (.alpha, 0x3A#8)
  | .alpha59 => (.alpha, 0x3B#8)
  | .alpha60 => (.alpha, 0x3C#8)
  | .alpha61 => (.alpha, 0x3D#8)
  | .alpha62 => (.alpha, 0x3E#8)
  | .alpha63 => (.alpha, 0x3F#8)
  | .rlut00 => (.rlut, 0x00#8)
  | .rlut01 => (.rlut, 0x01#8)
  | .rlut02 => (.rlut, 0x02#8)
  | .rlut03 => (.rlut, 0x03#8)
  | .rlut04 => (.rlut, 0x04#8)
  | .rlut05 => (.rlut, 0x05#8)
  | .rlut06 => (.rlut, 0x06#8)
  | .rlut07 => (.rlut, 0x07#8)
  | .rlut08 => (.rlut, 0x08#8)
  | .rlut09 => (.rlut, 0x09#8)
  | .rlut0A => (.rlut, 0x0A#8)
  | .rlut0B => (.rlut, 0x0B#8)
  | .rlut0C => (.rlut, 0x0C#8)
  | .rlut0D => (.rlut, 0x0D#8)
  | .rlut0E => (.rlut, 0x0E#8)
  | .rlut0F => (.rlut, 0x0F#8)
  | .rlut10 => (.rlut, 0x10#8)
  | .rlut11 => (.rlut, 0x11#8)
  | .rlut12 => (.rlut, 0x12#8)
  | .rlut13 => (.rlut, 0x13#8)
  | .rlut14 => (.rlut, 0x14#8)
  | .rlut15 => (.rlut, 0x15#8)
  | .rlut16 => (.rlut, 0x16#8)
  | .rlut17 => (.rlut, 0x17#8)
  | .rlut18 => (.rlut, 0x18#8)
  | .rlut19 => (.rlut, 0x19#8)
  | .rlut1A => (.rlut, 0x1A#8)
  | .rlut1B => (.rlut, 0x1B#8)
  | .rlut1C => (.rlut, 0x1C#8)
  | .rlut1D => (.rlut, 0x1D#8)
  | .rlut1E => (.rlut, 0x1E#8)
  | .rlut1F => (.rlut, 0x1F#8)
  | .rlut20 => (.rlut, 0x20#8)
  | .rlut21 => (.rlut, 0x21#8)
  | .rlut22 => (.rlut, 0x22#8)
  | .rlut23 => (.rlut, 0x23#8)
  | .rlut24 => (.rlut, 0x24#8)
  | .rlut25 => (.rlut, 0x25#8)
  | .rlut26 => (.rlut, 0x26#8)
  | .rlut27 => (.rlut, 0x27#8)
  | .rlut28 => (.rlut, 0x28#8)
  | .rlut29 => (.rlut, 0x29#8)
  | .rlut2A => (.rlut, 0x2A#8)
  | .rlut2B => (.rlut, 0x2B#8)
  | .rlut2C => (.rlut, 0x2C#8)
  | .rlut2D => (.rlut, 0x2D#8)
  | .rlut2E => (.rlut, 0x2E#8)
  | .rlut2F => (.rlut, 0x2F#8)
  | .rlut30 => (.rlut, 0x30#8)
  | .rlut31 => (.rlut, 0x31#8)
  | .rlut32 => (.rlut, 0x32#8)
  | .rlut33 => (.rlut, 0x33#8)
  | .rlut34 => (.rlut, 0x34#8)
  | .rlut35 => (.rlut, 0x35#8)
  | .rlut36 => (.rlut, 0x36#8)
  | .rlut37 => (.rlut, 0x37#8)
  | .rlut38 => (.rlut, 0x38#8)
  | .rlut39 => (.rlut, 0x39#8)
  | .rlut3A => (.rlut, 0x3A#8)
  | .rlut3B => (.rlut, 0x3B#8)
  | .rlut3C => (.rlut, 0x3C#8)
  | .rlut3D => (.rlut, 0x3D#8)
  | .rlut3E => (.rlut, 0x3E#8)
  | .rlut3F => (.rlut, 0x3F#8)
  | .rlut40 => (.rlut, 0x40#8)
  | .rlut41 => (.rlut, 0x41#8)
  | .rlut42 => (.rlut, 0x42#8)
  | .rlut43 => (.rlut, 0x43#8)
  | .rlut44 => (.rlut, 0x44#8)
  | .rlut45 => (.rlut, 0x45#8)
  | .rlut46 => (.rlut, 0x46#8)
  | .rlut47 => (.rlut, 0x47#8)
  | .rlut48 => (.rlut, 0x48#8)
  | .rlut49 => (.rlut, 0x49#8)
  | .rlut4A => (.rlut, 0x4A#8)
  | .rlut4B => (.rlut, 0x4B#8)
  | .rlut4C => (.rlut, 0x4C#8)
  | .rlut4D => (.rlut, 0x4D#8)
  | .rlut4E => (.rlut, 0x4E#8)
  | .rlut4F => (.rlut, 0x4F#8)
  | .rlut50 => (.rlut, 0x50#8)
  | .rlut51 => (.rlut, 0x51#8)
  | .rlut52 => (.rlut, 0x52#8)
  | .rlut53 => (.rlut, 0x53#8)
  | .rlut54 => (.rlut, 0x54#8)
  | .rlut55 => (.rlut, 0x55#8)
  | .rlut56 => (.rlut, 0x56#8)
  | .rlut57 => (.rlut, 0x57#8)
  | .rlut58 => (.rlut, 0x58#8)
  | .rlut59 => (.rlut, 0x59#8)
  | .rlut5A => (.rlut, 0x5A#8)
  | .rlut5B => (.rlut, 0x5B#8)
  | .rlut5C => (.rlut, 0x5C#8)
  | .rlut5D => (.rlut, 0x5D#8)
  | .rlut5E => (.rlut, 0x5E#8)
  | .rlut5F => (.rlut, 0x5F#8)
  | .rlut60 => (.rlut, 0x60#8)
  | .rlut61 => (.rlut, 0x61#8)
  | .rlut62 => (.rlut, 0x62#8)
  | .rlut63 => (.rlut, 0x63#8)
  | .rlut64 => (.rlut, 0x64#8)
  | .rlut65 => (.rlut, 0x65#8)
  | .rlut66 => (.rlut, 0x66#8)
  | .rlut67 => (.rlut, 0x67#8)
  | .rlut68 => (.rlut, 0x68#8)
  | .rlut69 => (.rlut, 0x69#8)
  | .rlut6A => (.rlut, 0x6A#8)
  | .rlut6B => (.rlut, 0x6B#8)
  | .rlut6C => (.rlut, 0x6C#8)
  | .rlut6D => (.rlut, 0x6D#8)
  | .rlut6E => (.rlut, 0x6E#8)
  | .rlut6F => (.rlut, 0x6F#8)
  | .rlut70 => (.rlut, 0x70#8)
  | .rlut71 => (.rlut, 0x71#8)
  | .rlut72 => (.rlut, 0x72#8)
  | .rlut73 => (.rlut, 0x73#8)
  | .rlut74 => (.rlut, 0x74#8)
  | .rlut75 => (.rlut, 0x75#8)
  | .rlut76 => (.rlut, 0x76#8)
  | .rlut77 => (.rlut, 0x77#8)
  | .rlut78 => (.rlut, 0x78#8)
  | .rlut79 => (.rlut, 0x79#8)
  | .rlut7A => (.rlut, 0x7A#8)
  | .rlut7B => (.rlut, 0x7B#8)
  | .rlut7C => (.rlut, 0x7C#8)
  | .rlut7D => (.rlut, 0x7D#8)
  | .rlut7E => (.rlut, 0x7E#8)
  | .rlut7F => (.rlut, 0x7F#8)
  | .rlut80 => (.rlut, 0x80#8)
  | .rlut81 => (.rlut, 0x81#8)
  | .rlut82 => (.rlut, 0x82#8)
  | .rlut83 => (.rlut, 0x83#8)
  | .rlut84 => (.rlut, 0x84#8)
  | .rlut85 => (.rlut, 0x85#8)
  | .rlut86 => (.rlut, 0x86#8)
  | .rlut87 => (.rlut, 0x87#8)
  | .rlut88 => (.rlut, 0x88#8)
  | .rlut89 => (.rlut, 0x89#8)
  | .rlut8A => (.rlut, 0x8A#8)
  | .rlut8B => (.rlut, 0x8B#8)
  | .rlut8C => (.rlut, 0x8C#8)
  | .rlut8D => (.rlut, 0x8D#8)
  | .rlut8E => (.rlut, 0x8E#8)
  | .rlut8F => (.rlut, 0x8F#8)
  | .rlut90 => (.rlut, 0x90#8)
  | .rlut91 => (.rlut, 0x91#8)
  | .rlut92 => (.rlut, 0x92#8)
  | .rlut93 => (.rlut, 0x93#8)
  | .rlut94 => (.rlut, 0x94#8)
  | .rlut95 => (.rlut, 0x95#8)
  | .rlut96 => (.rlut, 0x96#8)
  | .rlut97 => (.rlut, 0x97#8)
  | .rlut98 => (.rlut, 0x98#8)
  | .rlut99 => (.rlut, 0x99#8)
  | .rlut9A => (.rlut, 0x9A#8)
  | .rlut9B => (.rlut, 0x9B#8)
  | .rlut9C => (.rlut, 0x9C#8)
  | .rlut9D => (.rlut, 0x9D#8)
  | .rlut9E => (.rlut, 0x9E#8)
  | .rlut9F => (.rlut, 0x9F#8)
  | .rlutA0 => (.rlut, 0xA0#8)
  | .rlutA1 => (.rlut, 0xA1#8)
  | .rlutA2 => (.rlut, 0xA2#8)
  | .rlutA3 => (.rlut, 0xA3#8)
  | .rlutA4 => (.rlut, 0xA4#8)
  | .rlutA5 => (.rlut, 0xA5#8)
  | .rlutA6 => (.rlut, 0xA6#8)
  | .rlutA7 => (.rlut, 0xA7#8)
  | .rlutA8 => (.rlut, 0xA8#8)
  | .rlutA9 => (.rlut, 0xA9#8)
  | .rlutAA => (.rlut, 0xAA#8)
  | .rlutAB => (.rlut, 0xAB#8)
  | .rlutAC => (.rlut, 0xAC#8)
  | .rlutAD => (.rlut, 0xAD#8)
  | .rlutAE => (.rlut, 0xAE#8)
  | .rlutAF => (.rlut, 0xAF#8)
  | .rlutB0 => (.rlut, 0xB0#8)
  | .rlutB1 => (.rlut, 0xB1#8)
  | .rlutB2 => (.rlut, 0xB2#8)
  | .rlutB3 => (.rlut, 0xB3#8)
  | .rlutB4 => (.rlut, 0xB4#8)
  | .rlutB5 => (.rlut, 0xB5#8)
  | .rlutB6 => (.rlut, 0xB6#8)
  | .rlutB7 => (.rlut, 0xB7#8)
  | .rlutB8 => (.rlut, 0xB8#8)
  | .rlutB9 => (.rlut, 0xB9#8)
  | .rlutBA => (.rlut, 0xBA#8)
  | .rlutBB => (.rlut, 0xBB#8)
  | .rlutBC => (.rlut, 0xBC#8)
  | .rlutBD => (.rlut, 0xBD#8)
  | .rlutBE => (.rlut, 0xBE#8)
  | .rlutBF => (.rlut, 0xBF#8)
  | .rlutC0 => (.rlut, 0xC0#8)
  | .rlutC1 => (.rlut, 0xC1#8)
  | .rlutC2 => (.rlut, 0xC2#8)
  | .rlutC3 => (.rlut, 0xC3#8)
  | .rlutC4 => (.rlut, 0xC4#8)
  | .rlutC5 => (.rlut, 0xC5#8)
  | .rlutC6 => (.rlut, 0xC6#8)
  | .rlutC7 => (.rlut, 0xC7#8)
  | .rlutC8 => (.rlut, 0xC8#8)
  | .rlutC9 => (.rlut, 0xC9#8)
  | .rlutCA => (.rlut, 0xCA#8)
  | .rlutCB => (.rlut, 0xCB#8)
  | .rlutCC => (.rlut, 0xCC#8)
  | .rlutCD => (.rlut, 0xCD#8)
  | .rlutCE => (.rlut, 0xCE#8)
  | .rlutCF => (.rlut, 0xCF#8)
  | .rlutD0 => (.rlut, 0xD0#8)
  | .rlutD1 => (.rlut, 0xD1#8)
  | .rlutD2 => (.rlut, 0xD2#8)
  | .rlutD3 => (.rlut, 0xD3#8)
  | .rlutD4 => (.rlut, 0xD4#8)
  | .rlutD5 => (.rlut, 0xD5#8)
  | .rlutD6 => (.rlut, 0xD6#8)
  | .rlutD7 => (.rlut, 0xD7#8)
  | .rlutD8 => (.rlut, 0xD8#8)
  | .rlutD9 => (.rlut, 0xD9#8)
  | .rlutDA => (.rlut, 0xDA#8)
  | .rlutDB => (.rlut, 0xDB#8)
  | .rlutDC => (.rlut, 0xDC#8)
  | .rlutDD => (.rlut, 0xDD#8)
  | .rlutDE => (.rlut, 0xDE#8)
  | .rlutDF => (.rlut, 0xDF#8)
  | .rlutE0 => (.rlut, 0xE0#8)
  | .rlutE1 => (.rlut, 0xE1#8)
  | .rlutE2 => (.rlut, 0xE2#8)
  | .rlutE3 => (.rlut, 0xE3#8)
  | .rlutE4 => (.rlut, 0xE4#8)
  | .rlutE5 => (.rlut, 0xE5#8)
  | .rlutE6 => (.rlut, 0xE6#8)
  | .rlutE7 => (.rlut, 0xE7#8)
  | .rlutE8 => (.rlut, 0xE8#8)
  | .rlutE9 => (.rlut, 0xE9#8)
  | .rlutEA => (.rlut, 0xEA#8)
  | .rlutEB => (.rlut, 0xEB#8)
  | .rlutEC => (.rlut, 0xEC#8)
  | .rlutED => (.rlut, 0xED#8)
  | .rlutEE => (.rlut, 0xEE#8)
  | .rlutEF => (.rlut, 0xEF#8)
  | .rlutF0 => (.rlut, 0xF0#8)
  | .rlutF1 => (.rlut, 0xF1#8)
  | .rlutF2 => (.rlut, 0xF2#8)
  | .rlutF3 => (.rlut, 0xF3#8)
  | .rlutF4 => (.rlut, 0xF4#8)
  | .rlutF5 => (.rlut, 0xF5#8)
  | .rlutF6 => (.rlut, 0xF6#8)
  | .rlutF7 => (.rlut, 0xF7#8)
  | .rlutF8 => (.rlut, 0xF8#8)
  | .rlutF9 => (.rlut, 0xF9#8)
  | .rlutFA => (.rlut, 0xFA#8)
  | .rlutFB => (.rlut, 0xFB#8)
  | .rlutFC => (.rlut, 0xFC#8)
  | .rlutFD => (.rlut, 0xFD#8)
  | .rlutFE => (.rlut, 0xFE#8)
  | .rlutFF => (.rlut, 0xFF#8)

/-- The format a row belongs to. -/
def Instr.format (i : Instr) : Format := i.formatWord.1

/-- The row's word in its own format. -/
def Instr.word (i : Instr) : Byte := i.formatWord.2

/-- The two-byte record of an instruction: its word, then its format's number. -/
def encode (i : Instr) : List Byte :=
  [i.word, i.format.tag]

/-! ## The host's question: the row of a bare table word -/

/-- The longest record is two bytes. -/
def maxRecordBits : Nat := 16

/-- The record whose lowest `nbits` bits are those of `w` and whose other bits are 0, first byte lowest. -/
def tableRecord (nbits w : Nat) : List Byte :=
  let v := w % 2 ^ min nbits maxRecordBits
  [BitVec.ofNat 8 v, BitVec.ofNat 8 (v / 256)]

/-- The row this decoder reads from an instruction whose bits are `w`, numbered as opcode_table.json numbers them. -/
def decodeTableWord (nbits w : Nat) : Option Instr :=
  match decode (tableRecord nbits w) with
  | .ok (i, _) => some i
  | .error _ => none

end Sys2Proof
end

