-- ==== Sys2Proof/Machine/Accesses.lean ====
section
/-!
DEFINITION. The two units one access at a time (20_memory.md R41, R45; 92 D10): a group action is a sequence of single-byte accesses in the
order of its rule, and between any two of them another agent's access may fall. A step of a unit is its next access, with the register
work up to the access after it (notes/assumptions/7). With no other agent between, the accesses of a group are its row (40_encoder.md
R72 to R75; 41_decoder.md R89 to R99).
-/

namespace Sys2Proof.Machine

/-! ## The encoder -/

/-- The next access of the group is this one. -/
def encGoOn (p : EncPhase) (s : State) : State :=
  s.withEnc { s.enc with phase := p }

/-- All bytes of the group are read: `E.g <- {a, b, c}`, and the characters follow. -/
def encGroupRead (g : Group) (s : State) : State :=
  encGoOn .write1 (setGroup s g)

/-- The third and the fourth character: of a tail, `=` (R73, R74). -/
def writeUnlessTail (m : Nat) (s : State) (a : Nat) (v : Sextet) : Res State :=
  if m ≤ s.enc.rem then writeSextet s a v else writeByte s a PAD

/-- The encoder's next access. The bytes still to encode say which row the group is (R64); the third and second byte of a tail are the
constant 0 and are not read. -/
def encAccess (s : State) : Res State :=
  match s.enc.phase with
  | .read1 =>
    if s.enc.rem = 0 then encFinish s
    else do
      let a ← readByte s s.enc.src
      .ok (if s.enc.rem = 1 then encGroupRead (joinBytes a 0#8 0#8) s else encGoOn (.read2 a) s)
  | .read2 a => do
    let b ← readByte s (s.addr s.enc.src 1)
    .ok (if s.enc.rem = 2 then encGroupRead (joinBytes a b 0#8) s else encGoOn (.read3 a b) s)
  | .read3 a b => do
    let c ← readByte s (s.addr s.enc.src 2)
    .ok (encGroupRead (joinBytes a b c) s)
  | .write1 => do
    let s ← writeSextet s s.enc.dst (sextet0 s.enc.g)
    .ok (encGoOn .write2 s)
  | .write2 => do
    let s ← writeSextet s (s.addr s.enc.dst 1) (sextet1 s.enc.g)
    .ok (encGoOn .write3 s)
  | .write3 => do
    let s ← writeUnlessTail 2 s (s.addr s.enc.dst 2) (sextet2 s.enc.g)
    .ok (encGoOn .write4 s)
  | .write4 => do
    let s ← writeUnlessTail 3 s (s.addr s.enc.dst 3) (sextet3 s.enc.g)
    .ok (encGoOn .read1 (encAdvance s (encM s.enc) (s.enc.rem - 3)))

/-- The address of the encoder's next access. -/
def encNext (s : State) : Nat :=
  match s.enc.phase with
  | .read1 => if s.enc.rem = 0 then s.enc.dst else s.enc.src
  | .read2 _ => s.addr s.enc.src 1
  | .read3 _ _ => s.addr s.enc.src 2
  | .write1 => s.enc.dst
  | .write2 => s.addr s.enc.dst 1
  | .write3 => s.addr s.enc.dst 2
  | .write4 => s.addr s.enc.dst 3

/-! ## The decoder -/

/-- The next access of the group is this one. -/
def decGoOn (p : DecPhase) (s : State) : State :=
  s.withDec { s.dec with phase := p }

/-- The decoder's next access. Each character's check follows its fetch (60_exceptions.md R114); whether the third was `Pad` is
`D.cpad` (10_state.md R16). -/
def decAccess (s : State) : Res State :=
  match s.dec.phase with
  | .read1 => do
    let s ← fetch 0 s
    .ok (match s.rlutOut with
      | .data v => decGoOn .read2 (shift v s)
      | .pad => finishOk s
      | .notB64 => finishOk s)
  | .read2 => do
    let s ← fetch 1 s
    .ok (match s.rlutOut with
      | .data v => decGoOn .write1 (shift v s)
      | .pad => decGoOn .read1 (raiseMalformed s)
      | .notB64 => decGoOn .read1 (raiseMalformed s))
  | .write1 => do
    let s ← emit1 s
    .ok (decGoOn .read3 s)
  | .read3 => do
    let s ← fetch 2 s
    .ok (match s.rlutOut with
      | .data v => decGoOn .read4 (shift v s)
      | .pad => decGoOn .read4 s
      | .notB64 => decGoOn .read1 (raiseMalformed s))
  | .read4 => do
    let s ← fetch 3 s
    .ok (match s.rlutOut with
      | .data v => if s.dec.cpad then decGoOn .read1 (raiseMalformed s) else decGoOn (.write2 (some v)) s
      | .pad => if s.dec.cpad then decGoOn .read1 (finishOk s) else decGoOn (.write2 none) s
      | .notB64 => decGoOn .read1 (raiseMalformed s))
  | .write2 none => do
    let s ← emit2 s
    .ok (decGoOn .read1 (finishOk s))
  | .write2 (some v) => do
    let s ← emit2 s
    .ok (decGoOn (.write3 v) s)
  | .write3 v => do
    let s ← decByte3 (shift v s)
    .ok (decGoOn .read1 s)

/-- The address of the decoder's next access. -/
def decNext (s : State) : Nat :=
  match s.dec.phase with
  | .read1 => s.addr s.dec.src 0
  | .read2 => s.addr s.dec.src 1
  | .write1 => s.dec.dst
  | .read3 => s.addr s.dec.src 2
  | .read4 => s.addr s.dec.src 3
  | .write2 _ => s.dec.dst
  | .write3 _ => s.dec.dst

end Sys2Proof.Machine
end

