-- ==== Sys2Proof/Machine/Select.lean ====
section
/-!
DEFINITION. What the machine does next: which agent steps (00_scope.md R8), one access of a busy unit or the acceptance of a command, the host's
moves (60_exceptions.md R119), reset (70_reset_and_hazards.md R125, R126), and how the host of this package places a table word so that
the next step runs it.
-/

namespace Sys2Proof.Machine

/-! ## The host -/

/-- One move of the host; a port carries `AW` bits (R22), and a store needs memory at its address as any access does (R39). -/
def hostMove (s : State) : HostMove → Res State
  | .driveEnc start dest src size =>
    .ok (s.withIo { s.io with
      encStart := start
      encDest := toPort s.plat.aw dest
      encSrc := toPort s.plat.aw src
      encSize := toPort s.plat.aw size })
  | .driveDec start dest src =>
    .ok (s.withIo { s.io with decStart := start, decDest := toPort s.plat.aw dest, decSrc := toPort s.plat.aw src })
  | .driveRst level => .ok (s.withIo { s.io with rst := level })
  | .store a v => writeByte s a v

/-- The host makes its next move, if it has one. -/
def hostStep (s : State) : Res State :=
  match s.script with
  | [] => .ok s
  | move :: rest => hostMove (s.withScript rest) move

/-! ## Which agent steps -/

/-- The agents that take steps (R8). -/
inductive Agent where
  | host
  | enc
  | dec
  deriving DecidableEq, Repr

/-- Has the agent something to do: a unit while it is busy, or when a command is presented to it (R71, R86), the host while it has a
move left? -/
def hasWork (s : State) : Agent → Bool
  | .host => !s.script.isEmpty
  | .enc => s.enc.busy || s.io.encStart
  | .dec => s.dec.busy || s.io.decStart

/-- The address of the one access the agent's next step makes, none where it makes none. -/
def nextAccess (s : State) : Agent → Option Nat
  | .host =>
    match s.script with
    | .store a _ :: _ => some a
    | _ => none
  | .enc => if s.enc.busy then some (encNext s) else none
  | .dec => if s.dec.busy then some (decNext s) else none

/-- The agent needs an address the memory does not admit: it has no step (20_memory.md R39, 92 D14, 93 U14). -/
def stuckAt (s : State) (x : Agent) : Option Nat :=
  if hasWork s x then (nextAccess s x).filter (fun a => !s.plat.admits a) else none

/-- An agent can step when it has something to do and is not stuck. -/
def canStep (s : State) (x : Agent) : Bool :=
  hasWork s x && (stuckAt s x).isNone

/-- The agents that can step, in a fixed order. -/
def enabled (s : State) : List Agent :=
  [Agent.host, .enc, .dec].filter (canStep s)

/-- What the next step is. -/
inductive Selection where
  /-- no row is run: a reset, a move of the host, or nothing to do -/
  | settled (s : State)
  /-- the machine stops -/
  | stop (r : Stop)
  /-- a row is run in a state -/
  | run (i : Instr) (s : State)
  deriving DecidableEq, Repr

/-- A step that runs no row. -/
def settle : Res State → Selection
  | .ok s => .settled s
  | .error r => .stop r

/-- The row a word selects. -/
def runWord (s : State) (f : Format) (w : Byte) : Selection :=
  match decodeAs f w with
  | .ok i => .run i s
  | .error _ => .stop (.refusal .noSuchRow)

/-- The step of one agent: a move of the host, one access of a busy unit, or the acceptance of a command. -/
def agentStep (s : State) : Agent → Selection
  | .host => settle (hostStep s)
  | .enc => if s.enc.busy then settle (encAccess s) else runWord s .ctrlEnc (startWord s.io.encStart s.enc.busy)
  | .dec => if s.dec.busy then settle (decAccess s) else runWord s .ctrlDec (startWord s.io.decStart s.dec.busy)

/-- No agent can step: the machine has nothing to do (R122; notes/assumptions/19), or every agent that has is stuck
(notes/assumptions/3). -/
def nobodySteps (s : State) : Selection :=
  match [Agent.host, .enc, .dec].findSome? (stuckAt s) with
  | none => .settled s
  | some a => .stop (.fault (.unadmitted a))

/-- The step of one of the agents that can step: the only one, or, of several, a free choice (R8: "in any interleaving";
notes/assumptions/6). -/
def agentsStep (s : State) : Selection :=
  match enabled s with
  | [] => nobodySteps s
  | [x] => agentStep s x
  | x :: y :: rest =>
    agentStep (s.withFreeIx (s.freeIx + 1)) ((x :: y :: rest).getD (Config.freeChoice s.freeIx % (rest.length + 2)) x)

/-- The request channel's record is run in the state with the channel emptied (R66; notes/assumptions/13). -/
def requestStep (s : State) (bytes : List Byte) : Selection :=
  match decode bytes with
  | .ok (i, _) => .run i (s.withRequest [])
  | .error _ => .stop (.refusal .noSuchRow)

/-- A step while `rst = 1`: the reset event, and a move of the host, which drives `rst`, if it can make one. -/
def resetStep (s : State) : Selection :=
  if canStep s .host then settle (hostStep (forceReset s)) else .settled (forceReset s)

/-- The next step: reset has priority over everything (R114, R126), then a request, then the agents. -/
def select (s : State) : Selection :=
  if s.io.rst then resetStep s
  else
    match s.request with
    | [] => agentsStep s
    | bytes => requestStep s bytes

/-! ## Placing a table word for the next step -/

/-- Characters of the classes an action's word asks for. -/
def sampleGroup : Instr → List Byte
  | .decEnd0 => [NUL]
  | .decFailB => [0x41#8, NUL]
  | .decFailC => [0x41#8, 0x41#8, NUL]
  | .decFailD => [0x41#8, 0x41#8, 0x41#8, NUL]
  | .decFailDP => [0x41#8, 0x41#8, PAD, NUL]
  | .decFailPD => [0x41#8, 0x41#8, PAD, 0x41#8]
  | .decEnd1 => [0x41#8, 0x41#8, PAD, PAD]
  | .decEnd2 => [0x41#8, 0x41#8, 0x41#8, PAD]
  | .decFull => [0x41#8, 0x41#8, 0x41#8, 0x41#8]
  | _ => []

/-- The encoder busy with `r` bytes left. -/
def armEnc (s : State) (r : Nat) : State :=
  s.withEnc { s.enc with busy := true, done := false, rem := r, phase := .read1 }

/-- The decoder busy at a group of the given characters, its destination where they stand. -/
def armDec (s : State) (chars : List Byte) : State :=
  (s.withDec { s.dec with busy := true, done := false, dst := s.dec.src, phase := .read1 }).withMem
    (Memory.setAll s.plat.aw s.mem s.dec.src chars)

/-- The state in which a row's own selector selects it (R63, R64, R71, R86, R87), as far as it is not so already. -/
def armFor (s : State) (i : Instr) : State :=
  match i with
  | .encode => s.withEnc { s.enc with busy := false }
  | .decode => s.withDec { s.dec with busy := false }
  | .encStart => (s.withEnc { s.enc with busy := false }).withIo { s.io with encStart := true }
  | .decStart => (s.withDec { s.dec with busy := false }).withIo { s.io with decStart := true }
  | .encG3 => armEnc s 3
  | .encT2 => armEnc s 2
  | .encT1 => armEnc s 1
  | .encT0 => armEnc s 0
  | .decEnd0 => armDec s (sampleGroup i)
  | .decFailB => armDec s (sampleGroup i)
  | .decFailC => armDec s (sampleGroup i)
  | .decFailD => armDec s (sampleGroup i)
  | .decFailDP => armDec s (sampleGroup i)
  | .decFailPD => armDec s (sampleGroup i)
  | .decEnd1 => armDec s (sampleGroup i)
  | .decEnd2 => armDec s (sampleGroup i)
  | .decFull => armDec s (sampleGroup i)
  | .decFetch k => s.withDec { s.dec with k := BitVec.ofNat 2 k }
  | _ => s

/-- The state whose next step runs the record on its request channel (notes/assumptions/13). -/
def placeRecord (s : State) (bytes : List Byte) : State :=
  let t := (s.withRequest bytes).withIo { s.io with rst := false }
  match decode bytes with
  | .ok (i, _) => armFor t i
  | .error _ => t

end Sys2Proof.Machine
end

