-- ==== Sys2Proof/Machine/Step.lean ====
section
/-!
DEFINITION. One step of the machine: what Machine/Select.lean selects, run by `exec`.
-/

namespace Sys2Proof.Machine

/-- One step (00_scope.md R8). -/
def step (s : State) : Host.Outcome State Fault Refusal :=
  match select s with
  | .settled t => .next t
  | .stop r => answer (.error r)
  | .run i t => exec i t

/-- The state with a bare table word placed where the next step takes it: the request channel, and what the row's own selector needs
(notes/assumptions/13). -/
def State.withFetchWord (s : State) (nbits w : Nat) : State :=
  placeRecord s (tableRecord nbits w)

end Sys2Proof.Machine
end

