-- ==== Sys2Proof/WellFormed.lean ====
section
/-!
DEFINITION. Which instructions have a word. Every row is a whole word of its own format except `DEC.FETCH`, whose index field has
two bits (41_decoder.md R87; opcode_table.json).
-/

namespace Sys2Proof

/-- The operand fits the row's field: `k = 0, 1, 2, 3` for `DEC.FETCH`. -/
def Instr.wellFormed (i : Instr) : Bool :=
  match i with
  | .decFetch k => decide (k < 4)
  | _ => true

end Sys2Proof
end

