-- ==== Sys2Proof/Safety.lean ====
section
/-!
DEFINITION. The terms claims use: the machine's invariant, what the caller guarantees, what a group of characters or a whole input means
as data, and a unit running by itself.
-/

namespace Sys2Proof.Machine

/-! ## The invariant -/

/-- The encoder's registers of width `AW` fit (10_state.md R13, R15). -/
abbrev EncUnit.Fits (aw : Nat) (u : EncUnit) : Prop :=
  u.src < 2 ^ aw ∧ u.dst < 2 ^ aw ∧ u.rem < 2 ^ aw ∧ u.endAddr < 2 ^ aw

/-- The decoder's registers of width `AW` fit (10_state.md R16, R18). -/
abbrev DecUnit.Fits (aw : Nat) (u : DecUnit) : Prop :=
  u.src < 2 ^ aw ∧ u.dst < 2 ^ aw ∧ u.endAddr < 2 ^ aw

/-- The argument ports fit (10_state.md R22). -/
abbrev Ports.Fits (aw : Nat) (p : Ports) : Prop :=
  p.encDest < 2 ^ aw ∧ p.encSrc < 2 ^ aw ∧ p.encSize < 2 ^ aw ∧ p.decDest < 2 ^ aw ∧ p.decSrc < 2 ^ aw

/-- `busy = 1, done = 1` does not occur in either unit (10_state.md R14, R17), and a failure is shown by a completed operation with end
pointer 0 (R18). -/
abbrev State.ControlLegal (s : State) : Prop :=
  ¬(s.enc.busy = true ∧ s.enc.done = true) ∧ ¬(s.dec.busy = true ∧ s.dec.done = true) ∧
    (s.dec.fail = true → s.dec.done = true ∧ s.dec.endAddr = 0)

/-- The memory is in its canonical form and lists only addresses of the address space (20_memory.md R30). -/
abbrev State.MemoryLegal (s : State) : Prop :=
  s.mem.wf = true ∧ ∀ c ∈ s.mem, c.1 < 2 ^ s.plat.aw

/-- How many bytes the encoder must still have to encode at this place of a group (30_encoding.md R64). -/
def EncPhase.needs : EncPhase → Nat
  | .read1 => 0
  | .read2 _ => 2
  | .read3 _ _ => 3
  | .write1 => 1
  | .write2 => 1
  | .write3 => 1
  | .write4 => 1

/-- A group is in progress only in a busy unit, and only in a row of the encoder action map that goes so far (30_encoding.md R64). -/
abbrev State.PhaseLegal (s : State) : Prop :=
  (s.enc.busy = false → s.enc.phase = .read1) ∧ s.enc.phase.needs ≤ s.enc.rem ∧ (s.dec.busy = false → s.dec.phase = .read1)

/-- What every state of a run satisfies. -/
abbrev State.Inv (s : State) : Prop :=
  1 ≤ s.plat.aw ∧ s.enc.Fits s.plat.aw ∧ s.dec.Fits s.plat.aw ∧ s.io.Fits s.plat.aw ∧ s.ControlLegal ∧ s.PhaseLegal ∧ s.MemoryLegal

/-! ## What the caller guarantees -/

/-- Every address of a view is backed by memory. -/
def Span.Admitted (p : Platform) (v : Span) : Prop :=
  ∀ a, v.lo ≤ a → a < v.lo + v.len → p.admits a = true

/-- The part of the caller's guarantees that the model checks before it accepts a command with the given views (20_memory.md R35, R44;
70_reset_and_hazards.md R130; 93 U4): no wrap, no overlap, no conflict with the other unit's running operation. -/
def Views.Allowed (s : State) (v : Views) (other : Option Views) : Prop :=
  v.src.fits s.plat.aw = true ∧ v.dst.fits s.plat.aw = true ∧ v.src.meets v.dst = false ∧
    other.any (fun w => v.conflict w) = false

/-- The caller's guarantees for a whole operation with the given views (70_reset_and_hazards.md R128, R129, R130): what the model checks,
and memory behind every address. -/
def Views.Guaranteed (s : State) (v : Views) (other : Option Views) : Prop :=
  v.Allowed s other ∧ v.src.Admitted s.plat ∧ v.dst.Admitted s.plat

/-- An address of a view. -/
def Span.Holds (v : Span) (a : Nat) : Prop :=
  v.lo ≤ a ∧ a < v.lo + v.len

/-- An address outside a view. -/
def Span.Outside (v : Span) (a : Nat) : Prop :=
  a < v.lo ∨ v.lo + v.len ≤ a

/-! ## Characters and bytes as data -/

/-- The first sextet, `a >> 2` (30_encoding.md R58, right column, as the next three). -/
def slice0 (a : Byte) : Sextet := (a >>> 2).truncate 6

/-- The second sextet, `((a & 0x03) << 4) | (b >> 4)`. -/
def slice1 (a b : Byte) : Sextet := (((a &&& 0x03#8) <<< 4) ||| (b >>> 4)).truncate 6

/-- The third sextet, `((b & 0x0F) << 2) | (c >> 6)`. -/
def slice2 (b c : Byte) : Sextet := (((b &&& 0x0F#8) <<< 2) ||| (c >>> 6)).truncate 6

/-- The fourth sextet, `c & 0x3F`. -/
def slice3 (c : Byte) : Sextet := (c &&& 0x3F#8).truncate 6

/-- The first byte, `((va << 2) | (vb >> 4)) & 0xFF` (30_encoding.md R59, right column, as the next two). -/
def pack1 (va vb : Sextet) : Byte := (va.zeroExtend 8 <<< 2) ||| (vb.zeroExtend 8 >>> 4)

/-- The second byte, `(((vb & 0x0F) << 4) | (vc >> 2)) & 0xFF`. -/
def pack2 (vb vc : Sextet) : Byte := ((vb.zeroExtend 8 &&& 0x0F#8) <<< 4) ||| (vc.zeroExtend 8 >>> 2)

/-- The third byte, `(((vc & 0x03) << 6) | vd) & 0xFF`. -/
def pack3 (vc vd : Sextet) : Byte := ((vc.zeroExtend 8 &&& 0x03#8) <<< 6) ||| vd.zeroExtend 8

/-- The text of a list of bytes, without its terminator (40_encoder.md R70). -/
def textOf : List Byte → List Byte
  | a :: b :: c :: rest =>
    alphaAt (slice0 a) :: alphaAt (slice1 a b) :: alphaAt (slice2 b c) :: alphaAt (slice3 c) :: textOf rest
  | [a, b] => [alphaAt (slice0 a), alphaAt (slice1 a b), alphaAt (slice2 b 0#8), PAD]
  | [a] => [alphaAt (slice0 a), alphaAt (slice1 a 0#8), PAD, PAD]
  | [] => []

/-- How a text group ends the operation. -/
inductive GroupEnd where
  | ok
  | fail
  | goesOn
  deriving DecidableEq, Repr

/-- What a group of four classes writes and how it ends (41_decoder.md R85; 30_encoding.md R63). -/
def groupOf (a b c d : CharClass) : List Byte × GroupEnd :=
  match a, b, c, d with
  | .data va, .data vb, .data vc, .data vd => ([pack1 va vb, pack2 vb vc, pack3 vc vd], .goesOn)
  | .data va, .data vb, .data vc, .pad => ([pack1 va vb, pack2 vb vc], .ok)
  | .data va, .data vb, .pad, .pad => ([pack1 va vb], .ok)
  | .data va, .data vb, _, _ => ([pack1 va vb], .fail)
  | .data _, _, _, _ => ([], .fail)
  | _, _, _, _ => ([], .ok)

/-- The bytes a terminated string decodes to, and whether the result is `OK` (41_decoder.md R85, R107); the list is the string without its
terminator, which is a `NotB64` character like any other. -/
def bytesOf : List Byte → List Byte × Bool
  | a :: b :: c :: d :: rest =>
    match groupOf (classify a) (classify b) (classify c) (classify d) with
    | (bs, .goesOn) => (bs ++ (bytesOf rest).1, (bytesOf rest).2)
    | (bs, .ok) => (bs, true)
    | (bs, .fail) => (bs, false)
  | [a, b, c] =>
    ((groupOf (classify a) (classify b) (classify c) .notB64).1,
      (groupOf (classify a) (classify b) (classify c) .notB64).2 == .ok)
  | [a, b] =>
    ((groupOf (classify a) (classify b) .notB64 .notB64).1, (groupOf (classify a) (classify b) .notB64 .notB64).2 == .ok)
  | [a] =>
    ((groupOf (classify a) .notB64 .notB64 .notB64).1, (groupOf (classify a) .notB64 .notB64 .notB64).2 == .ok)
  | [] => ([], true)

/-- `n` bytes of memory from an address upward. -/
def bytesAt (m : Memory) (a : Nat) : Nat → List Byte
  | 0 => []
  | n + 1 => m.get a :: bytesAt m (a + 1) n

/-! ## The decoder's next group, as it fetches it -/

/-- The group's first two characters are data characters, at admitted addresses, and byte 1 has memory to go to. -/
def TwoData (s : State) (va vb : Sextet) : Prop :=
  s.plat.admits (s.addr s.dec.src 0) = true ∧ classify (s.mem.get (s.addr s.dec.src 0)) = .data va ∧
    s.plat.admits (s.addr s.dec.src 1) = true ∧ classify (s.mem.get (s.addr s.dec.src 1)) = .data vb ∧
    s.plat.admits s.dec.dst = true

/-- The memory the third and fourth characters are fetched from: byte 1 is written before them (20_memory.md R41). -/
def memAfterByte1 (s : State) (va vb : Sextet) : Memory :=
  s.mem.set s.dec.dst (pack1 va vb)

/-- Character `k` of the group, fetched after byte 1, has the class `x`. -/
def LaterChar (s : State) (va vb : Sextet) (k : Nat) (x : CharClass) : Prop :=
  s.plat.admits (s.addr s.dec.src k) = true ∧ classify ((memAfterByte1 s va vb).get (s.addr s.dec.src k)) = x

/-! ## Steps in a row -/

/-- An outcome of a selection. -/
def outcomeOf : Selection → Answer
  | .settled s => .next s
  | .stop r => answer (.error r)
  | .run i s => exec i s

/-- Is the unit busy? -/
def unitBusy (s : State) : Agent → Bool
  | .host => false
  | .enc => s.enc.busy
  | .dec => s.dec.busy

/-- Up to `n` steps of one agent alone, one access each, as long as it is busy. -/
def runUnit (x : Agent) : Nat → State → Answer
  | 0, s => .next s
  | n + 1, s =>
    if unitBusy s x then
      match outcomeOf (agentStep s x) with
      | .next t => runUnit x n t
      | .fault r => .fault r
      | .refused r => .refused r
    else .next s

/-- `n` steps of the machine. -/
def run : Nat → State → Answer
  | 0, s => .next s
  | n + 1, s =>
    match step s with
    | .next t => run n t
    | .fault r => .fault r
    | .refused r => .refused r

/-! ## The accesses of a row -/

/-- The addresses an encoder row reads and writes, in order (40_encoder.md R72 to R75; 20_memory.md R41). -/
def encAccesses (i : Instr) (s : State) : List Nat :=
  let out := [s.enc.dst, s.addr s.enc.dst 1, s.addr s.enc.dst 2, s.addr s.enc.dst 3]
  match i with
  | .encG3 => s.enc.src :: s.addr s.enc.src 1 :: s.addr s.enc.src 2 :: out
  | .encT2 => s.enc.src :: s.addr s.enc.src 1 :: out
  | .encT1 => s.enc.src :: out
  | .encT0 => [s.enc.dst]
  | _ => []

/-- The addresses a decoder group action reads and writes, in order: characters 1 and 2, byte 1, characters 3 and 4, bytes 2 and 3, up to
the action's last (41_decoder.md R89 to R99; 20_memory.md R41). -/
def decAccesses (i : Instr) (s : State) : List Nat :=
  let all := [s.addr s.dec.src 0, s.addr s.dec.src 1, s.dec.dst, s.addr s.dec.src 2, s.addr s.dec.src 3, s.addr s.dec.dst 1,
    s.addr (s.addr s.dec.dst 1) 1]
  match i with
  | .decEnd0 => all.take 1
  | .decFailB => all.take 2
  | .decFailC => all.take 4
  | .decFailD => all.take 5
  | .decFailDP => all.take 5
  | .decFailPD => all.take 5
  | .decEnd1 => all.take 5
  | .decEnd2 => all.take 6
  | .decFull => all
  | _ => []

/-- The first of some addresses that the memory does not admit. -/
def firstUnadmitted (p : Platform) (l : List Nat) : Option Nat :=
  l.find? (fun a => !p.admits a)

/-! ## Frames -/

/-- The addresses an encoder row stores to, in order (40_encoder.md R71 to R75). -/
def encStores (i : Instr) (s : State) : List Nat :=
  match i with
  | .encG3 => [s.enc.dst, s.addr s.enc.dst 1, s.addr s.enc.dst 2, s.addr s.enc.dst 3]
  | .encT2 => [s.enc.dst, s.addr s.enc.dst 1, s.addr s.enc.dst 2, s.addr s.enc.dst 3]
  | .encT1 => [s.enc.dst, s.addr s.enc.dst 1, s.addr s.enc.dst 2, s.addr s.enc.dst 3]
  | .encT0 => [s.enc.dst]
  | _ => []

/-- The addresses a decoder row stores to, in order (41_decoder.md R86 to R99). -/
def decStores (i : Instr) (s : State) : List Nat :=
  match i with
  | .decFailC => [s.dec.dst]
  | .decFailD => [s.dec.dst]
  | .decFailDP => [s.dec.dst]
  | .decFailPD => [s.dec.dst]
  | .decEnd1 => [s.dec.dst]
  | .decEnd2 => [s.dec.dst, s.addr s.dec.dst 1]
  | .decFull => [s.dec.dst, s.addr s.dec.dst 1, s.addr (s.addr s.dec.dst 1) 1]
  | .decEmit1 => [s.dec.dst]
  | .decEmit2 => [s.dec.dst]
  | _ => []

/-- An answer with a change made to its next state. -/
def onNext (f : State → State) : Answer → Answer
  | .next s => .next (f s)
  | .fault r => .fault r
  | .refused r => .refused r

end Sys2Proof.Machine
end

