-- ==== Sys2Proof/Certificates/Slice0/Obligations.lean ====
section
/-!
DEFINITION. The statements for the provers. Each says which rule of spec/ it formalises or rests on. A statement about a result keeps
the model's own lookup latches (`alphaOut`, `rlutOut`, notes/assumptions/14) existential, so that it says what the spec says and no
more, unless its docstring says otherwise.
-/

open Sys2Proof Sys2Proof.Machine

/-! ## Encodings -/

/-- Every well-formed row, at every operand its field admits, is read back from its two-byte record, and the bytes after the record are
left over (30_encoding.md R55, R62, R63, R64, R66). The record's layout is the model's (notes/assumptions/11). -/
def Obligations.RecordRoundTrip : Prop :=
  ∀ (i : Instr) (rest : List Byte), i.wellFormed = true → decode (encode i ++ rest) = .ok (i, rest)

/-- 30_encoding.md R63: "the nine rows are exclusive and cover all" class combinations: exactly one row of the decoder action map
selects the pattern of any four classes. -/
def Obligations.DecoderActionMapExclusive : Prop :=
  ∀ a b c d : CharClass, ∃ r : DecActRow,
    decActRows.filter (fun q => q.selects (decActWord (classCode a) (classCode b) (classCode c) (classCode d))) = [r]

/-- 30_encoding.md R63, row by row: the action of a group from the classes of its characters, whatever stands in the places of the
characters that are not fetched. -/
def Obligations.DecoderActionMapRows : Prop :=
  ∀ (a b c d : CharClass) (va vb vc vd : Sextet),
    let pick := fun a b c d : CharClass => decodeDecAct (decActWord (classCode a) (classCode b) (classCode c) (classCode d))
    (isData a = false → pick a b c d = .ok .decEnd0) ∧
    (isData b = false → pick (.data va) b c d = .ok .decFailB) ∧
    pick (.data va) (.data vb) .notB64 d = .ok .decFailC ∧
    pick (.data va) (.data vb) (.data vc) .notB64 = .ok .decFailD ∧
    pick (.data va) (.data vb) .pad .notB64 = .ok .decFailDP ∧
    pick (.data va) (.data vb) .pad (.data vd) = .ok .decFailPD ∧
    pick (.data va) (.data vb) .pad .pad = .ok .decEnd1 ∧
    pick (.data va) (.data vb) (.data vc) .pad = .ok .decEnd2 ∧
    pick (.data va) (.data vb) (.data vc) (.data vd) = .ok .decFull

/-- 30_encoding.md R64, row by row: the encoder's action from the bytes that remain. -/
def Obligations.EncoderActionMapRows : Prop :=
  ∀ u : EncUnit,
    (3 ≤ u.rem → decodeEncAct (encActWord u) = .ok .encG3) ∧
    (u.rem = 2 → decodeEncAct (encActWord u) = .ok .encT2) ∧
    (u.rem = 1 → decodeEncAct (encActWord u) = .ok .encT1) ∧
    (u.rem = 0 → decodeEncAct (encActWord u) = .ok .encT0)

/-- A few words written out from the spec's tables, one format each, and two patterns with the reserved class code `01`, which select
nothing (30_encoding.md R55, R62, R63, R64, R65, R66; 40 R71; 41 R86, R87, R88). -/
def Obligations.SpecWordsDecode : Prop :=
  decodeAs .cmd 0b0#8 = .ok .encode ∧ decodeAs .cmd 0b1#8 = .ok .decode ∧
  decodeAs .ctrlEnc 0b10#8 = .ok .encStart ∧ decodeAs .ctrlDec 0b10#8 = .ok .decStart ∧
  decodeAs .encAct 0b11#8 = .ok .encG3 ∧ decodeAs .encAct 0b01#8 = .ok .encT1 ∧
  decodeAs .decAct 0b10110101#8 = .ok .decEnd0 ∧ decodeAs .decAct 0b00111111#8 = .ok .decFailB ∧
  decodeAs .decAct 0b00001110#8 = .ok .decFailDP ∧ decodeAs .decAct 0b00000000#8 = .ok .decFull ∧
  decodeAs .decAct 0b01000000#8 = .error (.noRow .decAct) ∧ decodeAs .decAct 0b00010000#8 = .error (.noRow .decAct) ∧
  decodeAs .decFetch 0b10#8 = .ok (.decFetch 2) ∧ decodeAs .decShift 0b101110#8 = .ok (.decShift 46#6) ∧
  decodeAs .alpha 0b010011#8 = .ok .alpha19 ∧ decodeAs .rlut 0x54#8 = .ok .rlut54

/-! ## The tables -/

/-- Running row `i` of the alphabet table answers the closed form of 30_encoding.md R55 and changes nothing else: the 64 rows `alpha0` to
`alpha63`. The place of the answer is the model's (notes/assumptions/14), the codes are those the spec marks as general knowledge
(notes/assumptions/17). -/
def Obligations.AlphaRowsAnswerTheAlphabet : Prop :=
  ∀ (v : Sextet) (s : State), ∃ i : Instr,
    alphaInstrs[v.toNat]? = some i ∧ exec i s = .next { s with alphaOut := alphaAt v }

/-- Running row `c` of the reverse lookup table answers the classification of 30_encoding.md R62's ranges and changes nothing else: the
256 rows `rlut00` to `rlutFF`. The place of the answer is the model's (notes/assumptions/14). -/
def Obligations.RlutRowsAnswerTheClassification : Prop :=
  ∀ (c : Byte) (s : State), ∃ i : Instr,
    rlutInstrs[c.toNat]? = some i ∧ exec i s = .next { s with rlutOut := classify c }

/-- 30_encoding.md R62: `RLUT[c] = Data(i)` exactly when `c = ALPHA[i]`, `Pad` exactly for `=`; the terminator is `NotB64`; hence the 64 codes
of R55 are pairwise distinct. The codes are those the spec marks as general knowledge (notes/assumptions/17). -/
def Obligations.TablesAreInverse : Prop :=
  (∀ (c : Byte) (v : Sextet), classify c = .data v ↔ c = alphaAt v) ∧ (∀ c : Byte, classify c = .pad ↔ c = PAD) ∧
    classify NUL = .notB64

/-- 30_encoding.md R61, R65 (b): the stored forms and class codes; the code `01` never occurs. -/
def Obligations.StoredFormsAreClassCodes : Prop :=
  (∀ v : Sextet, storedForm (.data v) = v.zeroExtend 8 ∧ classCode (.data v) = 0b00#2) ∧
    (storedForm .notB64 = 0x80#8 ∧ classCode .notB64 = 0b10#2) ∧ (storedForm .pad = 0xC0#8 ∧ classCode .pad = 0b11#2) ∧
    ∀ x : CharClass, classCode x ≠ 0b01#2

/-! ## Operand assembly -/

/-- 30_encoding.md R58: each sextet of the group `{a, b, c}` is the given shift and mask of the bytes. -/
def Obligations.SextetAssembly : Prop :=
  ∀ a b c : Byte,
    sextet0 (joinBytes a b c) = slice0 a ∧ sextet1 (joinBytes a b c) = slice1 a b ∧
      sextet2 (joinBytes a b c) = slice2 b c ∧ sextet3 (joinBytes a b c) = slice3 c

/-- 30_encoding.md R59: the shifter's slices after two, three and four sextets are the given shifts and masks, whatever the shifter held
before. -/
def Obligations.ByteAssembly : Prop :=
  ∀ (sh : Group) (va vb vc vd : Sextet),
    byte1 (shiftIn (shiftIn sh va) vb) = pack1 va vb ∧
      byte2 (shiftIn (shiftIn (shiftIn sh va) vb) vc) = pack2 vb vc ∧
        byte3 (shiftIn (shiftIn (shiftIn (shiftIn sh va) vb) vc) vd) = pack3 vc vd

/-- 30_encoding.md R57: the group is at once three bytes and four sextets, so cutting and packing invert each other. -/
def Obligations.GroupReadsBothWays : Prop :=
  (∀ a b c : Byte, pack1 (slice0 a) (slice1 a b) = a ∧ pack2 (slice1 a b) (slice2 b c) = b ∧ pack3 (slice2 b c) (slice3 c) = c) ∧
    ∀ va vb vc vd : Sextet,
      slice0 (pack1 va vb) = va ∧ slice1 (pack1 va vb) (pack2 vb vc) = vb ∧ slice2 (pack2 vb vc) (pack3 vc vd) = vc ∧
        slice3 (pack3 vc vd) = vd

/-! ## Bytes of memory -/

/-- 20_memory.md R32: a write that the memory admits replaces the byte at its address and changes no other byte, and keeps the memory's
canonical form. -/
def Obligations.ByteWriteThenReads : Prop :=
  ∀ (s t : State) (a : Nat) (v : Byte), s.mem.wf = true → writeByte s a v = .ok t →
    readByte t a = .ok v ∧ (∀ b, b ≠ a → readByte t b = readByte s b) ∧ t.mem.wf = true

/-- 20_memory.md R39, R41: an access the memory does not admit is not made. A row selected by the encoder's selector, and each
sub-operation of the decoder, stops at its first access of that kind; a decoder group action stops there, or is not the action selected; a
whole `ENCODE` within the contract stops at one if there is one in its views, a whole `DECODE` if its first character is one; no row
stops so anywhere else. That the stop is this fault is notes/assumptions/3, and the form of an action that is not selected is
notes/assumptions/15; a host store stands in `StuckUnitLetsTheOthersStep`. -/
def Obligations.UnadmittedAccessIsStuck : Prop :=
  ∀ (s : State) (a : Nat),
    (∀ i ∈ [Instr.encG3, .encT2, .encT1, .encT0], s.enc.busy = true → s.enc.phase = .read1 →
      decodeEncAct (encActWord s.enc) = .ok i → firstUnadmitted s.plat (encAccesses i s) = some a →
      exec i s = .fault (.unadmitted a)) ∧
    (∀ i ∈ [Instr.decEnd0, .decFailB, .decFailC, .decFailD, .decFailDP, .decFailPD, .decEnd1, .decEnd2, .decFull],
      firstUnadmitted s.plat (decAccesses i s) = some a →
      exec i s = .fault (.unadmitted a) ∨ exec i s = .refused .notSelected) ∧
    (∀ k, s.dec.k.toNat = k → s.addr s.dec.src k = a → s.plat.admits a = false →
      exec (.decFetch k) s = .fault (.unadmitted a)) ∧
    (s.dec.dst = a → s.plat.admits a = false →
      exec .decEmit1 s = .fault (.unadmitted a) ∧ exec .decEmit2 s = .fault (.unadmitted a)) ∧
    (let v := encViews s.io.encDest s.io.encSrc s.io.encSize
     s.enc.busy = false → v.Allowed s (decRunning s) → v.src.Holds a ∨ v.dst.Holds a → s.plat.admits a = false →
      ∃ b, s.plat.admits b = false ∧ exec .encode s = .fault (.unadmitted b)) ∧
    (∀ n, s.dec.busy = false → strLen s s.io.decSrc = some n →
      (decViews s.io.decDest s.io.decSrc n).Allowed s (encRunning s) → s.io.decSrc = a → s.plat.admits a = false →
      exec .decode s = .fault (.unadmitted a)) ∧
    ∀ i : Instr, exec i s = .fault (.unadmitted a) → s.plat.admits a = false

/-! ## The encoder, step level -/

/-- 40_encoder.md R71: with `enc_start = 1` and `E.busy = 0` a command the model does not refuse (notes/assumptions/8, 9) is latched and the
unit is busy, at the start of a group (notes/assumptions/7), and its buffers are remembered (notes/assumptions/9); with `E.busy = 1`, or with
`enc_start = 0`, no state changes. -/
def Obligations.EncStartAccepts : Prop :=
  ∀ s : State,
    let v := encViews s.io.encDest s.io.encSrc s.io.encSize
    (s.io.encStart = true → s.enc.busy = false → v.Allowed s (decRunning s) →
      exec .encStart s = .next { s with
        enc := { s.enc with
          src := s.io.encSrc, dst := s.io.encDest, rem := s.io.encSize, busy := true, done := false, phase := .read1, bufs := v } }) ∧
    (s.enc.busy = true → exec .encStart s = .next s) ∧
    (s.io.encStart = false → exec .encStart s = .next s)

/-- 40_encoder.md R72: a full group. -/
def Obligations.EncG3EncodesAGroup : Prop :=
  ∀ s : State, s.enc.busy = true → s.enc.phase = .read1 → 3 ≤ s.enc.rem →
    s.plat.admits s.enc.src = true → s.plat.admits (s.addr s.enc.src 1) = true → s.plat.admits (s.addr s.enc.src 2) = true →
    s.plat.admits s.enc.dst = true → s.plat.admits (s.addr s.enc.dst 1) = true →
    s.plat.admits (s.addr s.enc.dst 2) = true → s.plat.admits (s.addr s.enc.dst 3) = true →
    let a := s.mem.get s.enc.src
    let b := s.mem.get (s.addr s.enc.src 1)
    let c := s.mem.get (s.addr s.enc.src 2)
    ∃ x, exec .encG3 s = .next { s with
      enc := { s.enc with
        src := s.addr s.enc.src 3, dst := s.addr s.enc.dst 4, rem := s.enc.rem - 3, g := a ++ b ++ c }
      mem := (((s.mem.set s.enc.dst (alphaAt (slice0 a))).set (s.addr s.enc.dst 1) (alphaAt (slice1 a b))).set
        (s.addr s.enc.dst 2) (alphaAt (slice2 b c))).set (s.addr s.enc.dst 3) (alphaAt (slice3 c))
      alphaOut := x }

/-- 40_encoder.md R73: the tail of two bytes. -/
def Obligations.EncT2EncodesTwoBytes : Prop :=
  ∀ s : State, s.enc.busy = true → s.enc.phase = .read1 → s.enc.rem = 2 →
    s.plat.admits s.enc.src = true → s.plat.admits (s.addr s.enc.src 1) = true →
    s.plat.admits s.enc.dst = true → s.plat.admits (s.addr s.enc.dst 1) = true →
    s.plat.admits (s.addr s.enc.dst 2) = true → s.plat.admits (s.addr s.enc.dst 3) = true →
    let a := s.mem.get s.enc.src
    let b := s.mem.get (s.addr s.enc.src 1)
    ∃ x, exec .encT2 s = .next { s with
      enc := { s.enc with src := s.addr s.enc.src 2, dst := s.addr s.enc.dst 4, rem := 0, g := a ++ b ++ 0#8 }
      mem := (((s.mem.set s.enc.dst (alphaAt (slice0 a))).set (s.addr s.enc.dst 1) (alphaAt (slice1 a b))).set
        (s.addr s.enc.dst 2) (alphaAt (slice2 b 0#8))).set (s.addr s.enc.dst 3) 0x3D#8
      alphaOut := x }

/-- 40_encoder.md R74: the tail of one byte. -/
def Obligations.EncT1EncodesOneByte : Prop :=
  ∀ s : State, s.enc.busy = true → s.enc.phase = .read1 → s.enc.rem = 1 →
    s.plat.admits s.enc.src = true →
    s.plat.admits s.enc.dst = true → s.plat.admits (s.addr s.enc.dst 1) = true →
    s.plat.admits (s.addr s.enc.dst 2) = true → s.plat.admits (s.addr s.enc.dst 3) = true →
    let a := s.mem.get s.enc.src
    ∃ x, exec .encT1 s = .next { s with
      enc := { s.enc with src := s.addr s.enc.src 1, dst := s.addr s.enc.dst 4, rem := 0, g := a ++ 0#8 ++ 0#8 }
      mem := (((s.mem.set s.enc.dst (alphaAt (slice0 a))).set (s.addr s.enc.dst 1) (alphaAt (slice1 a 0#8))).set
        (s.addr s.enc.dst 2) 0x3D#8).set (s.addr s.enc.dst 3) 0x3D#8
      alphaOut := x }

/-- 40_encoder.md R75: the terminator, and the result points at it. -/
def Obligations.EncT0Terminates : Prop :=
  ∀ s : State, s.enc.busy = true → s.enc.phase = .read1 → s.enc.rem = 0 → s.plat.admits s.enc.dst = true →
    exec .encT0 s = .next { s with
      enc := { s.enc with endAddr := s.enc.dst, busy := false, done := true }
      mem := s.mem.set s.enc.dst 0x00#8 }

/-- The frame of `ENC.START`, `ENC.G3`, `ENC.T2`, `ENC.T1`, `ENC.T0` (40_encoder.md R71 to R75; 10_state.md R13, R15, R21): the decoder, the
ports, the platform and every byte outside the stored addresses stay; `E.end` and the flags only as `ENC.START` and `ENC.T0` write
them; `E.g` only as the group actions do; the place in the group and the remembered buffers only as `ENC.START` sets them. -/
def Obligations.EncoderFrame : Prop :=
  ∀ i ∈ [Instr.encStart, .encG3, .encT2, .encT1, .encT0], ∀ s t : State, exec i s = .next t →
    t.dec = s.dec ∧ t.io = s.io ∧ t.plat = s.plat ∧ t.rlutOut = s.rlutOut ∧ t.request = s.request ∧ t.script = s.script ∧
      t.freeIx = s.freeIx ∧
      (i ≠ .encT0 → t.enc.endAddr = s.enc.endAddr) ∧
      (i ≠ .encStart → t.enc.phase = s.enc.phase ∧ t.enc.bufs = s.enc.bufs) ∧
      (i = .encStart ∨ i = .encT0 → t.enc.g = s.enc.g ∧ t.alphaOut = s.alphaOut) ∧
      (i = .encT0 → t.enc.src = s.enc.src ∧ t.enc.dst = s.enc.dst ∧ t.enc.rem = s.enc.rem) ∧
      (i ≠ .encStart → i ≠ .encT0 → t.enc.busy = s.enc.busy ∧ t.enc.done = s.enc.done) ∧
      ∀ a, a ∉ encStores i s → t.mem.get a = s.mem.get a

/-- 40_encoder.md R81: exactly one of the four encoder actions is enabled in every busy state between two groups: the one the selector
names; the others are not selected, which the model shows as this refusal (notes/assumptions/15). -/
def Obligations.OneEncoderActionEnabled : Prop :=
  ∀ s : State, s.enc.busy = true → s.enc.phase = .read1 → ∃ i ∈ [Instr.encG3, .encT2, .encT1, .encT0],
    decodeEncAct (encActWord s.enc) = .ok i ∧ (∀ r, exec i s ≠ .refused r) ∧
      ∀ j ∈ [Instr.encG3, .encT2, .encT1, .encT0], j ≠ i → exec j s = .refused .notSelected

/-! ## The decoder, step level -/

/-- 41_decoder.md R86: with `dec_start = 1` and `D.busy = 0` a command the model does not refuse (notes/assumptions/8, 9) is latched and the
unit is busy, at the start of a group (notes/assumptions/7), and its buffers are remembered (notes/assumptions/9), all of memory where the
string has no terminator (70_reset_and_hazards.md R133); with `D.busy = 1`, or with `dec_start = 0`, no state changes. -/
def Obligations.DecStartAccepts : Prop :=
  ∀ s : State,
    let started := fun v : Views => { s with
      dec := { s.dec with
        src := s.io.decSrc, dst := s.io.decDest, k := 0#2, busy := true, done := false, fail := false, phase := .read1, bufs := v } }
    (∀ n, s.io.decStart = true → s.dec.busy = false → strLen s s.io.decSrc = some n →
      (decViews s.io.decDest s.io.decSrc n).Allowed s (encRunning s) →
      exec .decStart s = .next (started (decViews s.io.decDest s.io.decSrc n))) ∧
    (s.io.decStart = true → s.dec.busy = false → strLen s s.io.decSrc = none → s.enc.busy = false →
      exec .decStart s = .next (started (everything s.plat.aw))) ∧
    (s.dec.busy = true → exec .decStart s = .next s) ∧
    (s.io.decStart = false → exec .decStart s = .next s)

/-- 41_decoder.md R87: `DEC.FETCH(k)` counts the character, latches `D.cpad` for the third, and returns its classification; `rlutOut` is where
this model returns it (notes/assumptions/14). -/
def Obligations.DecFetchClassifies : Prop :=
  ∀ (s : State) (k : Nat), s.dec.k.toNat = k → s.plat.admits (s.addr s.dec.src k) = true →
    let x := classify (s.mem.get (s.addr s.dec.src k))
    exec (.decFetch k) s = .next { s with
      dec := { s.dec with k := s.dec.k + 1#2, cpad := if k = 2 then isPad x else s.dec.cpad }
      rlutOut := x }

/-- 41_decoder.md R88: `DEC.SHIFT(v)`. -/
def Obligations.DecShiftShiftsIn : Prop :=
  ∀ (s : State) (v : Sextet),
    exec (.decShift v) s = .next { s with dec := { s.dec with sh := (s.dec.sh <<< 6) ||| v.zeroExtend 24 } }

/-- 41_decoder.md R91, R97: `DEC.EMIT1` and `DEC.EMIT2` write their slice of the shifter and advance `D.dst`. The rules' preconditions, how many
sextets were shifted in for the group, are not asked for: the rows run by themselves have their effect in every state
(notes/assumptions/22, DESIGN CHOICE). -/
def Obligations.DecEmitsWriteOneByte : Prop :=
  ∀ s : State, s.plat.admits s.dec.dst = true →
    exec .decEmit1 s = .next { s with
      dec := { s.dec with dst := s.addr s.dec.dst 1 }, mem := s.mem.set s.dec.dst ((s.dec.sh >>> 4).truncate 8) } ∧
    exec .decEmit2 s = .next { s with
      dec := { s.dec with dst := s.addr s.dec.dst 1 }, mem := s.mem.set s.dec.dst ((s.dec.sh >>> 2).truncate 8) }

/-- 41_decoder.md R89: the first character is not a data character, whatever it is. -/
def Obligations.DecEnd0Finishes : Prop :=
  ∀ s : State, s.dec.busy = true → s.dec.phase = .read1 → s.plat.admits (s.addr s.dec.src 0) = true →
    isData (classify (s.mem.get (s.addr s.dec.src 0))) = false →
    ∃ x, exec .decEnd0 s = .next { s with
      dec := { s.dec with k := 1#2, endAddr := s.dec.dst, fail := false, busy := false, done := true }
      rlutOut := x }

/-- 41_decoder.md R90: the second character is not a data character. -/
def Obligations.DecFailBFails : Prop :=
  ∀ (s : State) (va : Sextet), s.dec.busy = true → s.dec.phase = .read1 →
    s.plat.admits (s.addr s.dec.src 0) = true → classify (s.mem.get (s.addr s.dec.src 0)) = .data va →
    s.plat.admits (s.addr s.dec.src 1) = true → isData (classify (s.mem.get (s.addr s.dec.src 1))) = false →
    ∃ x, exec .decFailB s = .next { s with
      dec := { s.dec with
        sh := s.dec.sh.extractLsb' 0 18 ++ va, k := 2#2, endAddr := 0, fail := true, busy := false, done := true }
      rlutOut := x }

/-- 41_decoder.md R92: the third character is `NotB64`. -/
def Obligations.DecFailCFails : Prop :=
  ∀ (s : State) (va vb : Sextet), s.dec.busy = true → s.dec.phase = .read1 → TwoData s va vb → LaterChar s va vb 2 .notB64 →
    ∃ x, exec .decFailC s = .next { s with
      dec := { s.dec with
        sh := s.dec.sh.extractLsb' 0 12 ++ va ++ vb, dst := s.addr s.dec.dst 1, k := 3#2, cpad := false, endAddr := 0, fail := true,
        busy := false, done := true }
      mem := s.mem.set s.dec.dst (pack1 va vb)
      rlutOut := x }

/-- 41_decoder.md R93: third character data, fourth `NotB64`; byte 2 is not written. -/
def Obligations.DecFailDFails : Prop :=
  ∀ (s : State) (va vb vc : Sextet), s.dec.busy = true → s.dec.phase = .read1 → TwoData s va vb → LaterChar s va vb 2 (.data vc) →
    LaterChar s va vb 3 .notB64 →
    ∃ x, exec .decFailD s = .next { s with
      dec := { s.dec with
        sh := s.dec.sh.extractLsb' 0 6 ++ va ++ vb ++ vc, dst := s.addr s.dec.dst 1, k := 0#2, cpad := false, endAddr := 0,
        fail := true, busy := false, done := true }
      mem := s.mem.set s.dec.dst (pack1 va vb)
      rlutOut := x }

/-- 41_decoder.md R94: third character `Pad`, fourth `NotB64`. -/
def Obligations.DecFailDPFails : Prop :=
  ∀ (s : State) (va vb : Sextet), s.dec.busy = true → s.dec.phase = .read1 → TwoData s va vb → LaterChar s va vb 2 .pad →
    LaterChar s va vb 3 .notB64 →
    ∃ x, exec .decFailDP s = .next { s with
      dec := { s.dec with
        sh := s.dec.sh.extractLsb' 0 12 ++ va ++ vb, dst := s.addr s.dec.dst 1, k := 0#2, cpad := true, endAddr := 0, fail := true,
        busy := false, done := true }
      mem := s.mem.set s.dec.dst (pack1 va vb)
      rlutOut := x }

/-- 41_decoder.md R95: third character `Pad`, fourth a data character, which is not shifted in. -/
def Obligations.DecFailPDFails : Prop :=
  ∀ (s : State) (va vb vd : Sextet), s.dec.busy = true → s.dec.phase = .read1 → TwoData s va vb → LaterChar s va vb 2 .pad →
    LaterChar s va vb 3 (.data vd) →
    ∃ x, exec .decFailPD s = .next { s with
      dec := { s.dec with
        sh := s.dec.sh.extractLsb' 0 12 ++ va ++ vb, dst := s.addr s.dec.dst 1, k := 0#2, cpad := true, endAddr := 0, fail := true,
        busy := false, done := true }
      mem := s.mem.set s.dec.dst (pack1 va vb)
      rlutOut := x }

/-- 41_decoder.md R96: the group `x x = =`, one byte. -/
def Obligations.DecEnd1Finishes : Prop :=
  ∀ (s : State) (va vb : Sextet), s.dec.busy = true → s.dec.phase = .read1 → TwoData s va vb → LaterChar s va vb 2 .pad →
    LaterChar s va vb 3 .pad →
    ∃ x, exec .decEnd1 s = .next { s with
      dec := { s.dec with
        sh := s.dec.sh.extractLsb' 0 12 ++ va ++ vb, dst := s.addr s.dec.dst 1, k := 0#2, cpad := true,
        endAddr := s.addr s.dec.dst 1, fail := false, busy := false, done := true }
      mem := s.mem.set s.dec.dst (pack1 va vb)
      rlutOut := x }

/-- 41_decoder.md R98: the group `x x x =`, two bytes, the second after the fourth character has been fetched. -/
def Obligations.DecEnd2Finishes : Prop :=
  ∀ (s : State) (va vb vc : Sextet), s.dec.busy = true → s.dec.phase = .read1 → TwoData s va vb → LaterChar s va vb 2 (.data vc) →
    LaterChar s va vb 3 .pad → s.plat.admits (s.addr s.dec.dst 1) = true →
    ∃ x, exec .decEnd2 s = .next { s with
      dec := { s.dec with
        sh := s.dec.sh.extractLsb' 0 6 ++ va ++ vb ++ vc, dst := s.addr (s.addr s.dec.dst 1) 1, k := 0#2, cpad := false,
        endAddr := s.addr (s.addr s.dec.dst 1) 1, fail := false, busy := false, done := true }
      mem := (s.mem.set s.dec.dst (pack1 va vb)).set (s.addr s.dec.dst 1) (pack2 vb vc)
      rlutOut := x }

/-- 41_decoder.md R99: a full group, three bytes, and the advance to the next group. -/
def Obligations.DecFullDecodesAGroup : Prop :=
  ∀ (s : State) (va vb vc vd : Sextet), s.dec.busy = true → s.dec.phase = .read1 → TwoData s va vb → LaterChar s va vb 2 (.data vc) →
    LaterChar s va vb 3 (.data vd) → s.plat.admits (s.addr s.dec.dst 1) = true →
    s.plat.admits (s.addr (s.addr s.dec.dst 1) 1) = true →
    ∃ x, exec .decFull s = .next { s with
      dec := { s.dec with
        src := s.addr s.dec.src 4, sh := va ++ vb ++ vc ++ vd, dst := s.addr (s.addr (s.addr s.dec.dst 1) 1) 1, k := 0#2,
        cpad := false }
      mem := ((s.mem.set s.dec.dst (pack1 va vb)).set (s.addr s.dec.dst 1) (pack2 vb vc)).set
        (s.addr (s.addr s.dec.dst 1) 1) (pack3 vc vd)
      rlutOut := x }

/-- The frame of `DEC.START`, the nine group actions and the four sub-operations (41_decoder.md R86 to R99; 10_state.md R16, R18, R21): the
encoder, the ports, the platform and every byte outside the stored addresses stay; the place in the group and the remembered buffers
change only as `DEC.START` sets them; `D.src` moves only in `DEC.START` and `DEC.FULL`,
`D.end` and the flags only where the row starts or ends the operation, and `DEC.SHIFT`, `DEC.EMIT1`, `DEC.EMIT2`, `DEC.FETCH` write
their own register alone. -/
def Obligations.DecoderFrame : Prop :=
  ∀ (k : Nat) (v : Sextet),
    ∀ i ∈ [Instr.decStart, .decEnd0, .decFailB, .decFailC, .decFailD, .decFailDP, .decFailPD, .decEnd1, .decEnd2, .decFull,
      .decFetch k, .decShift v, .decEmit1, .decEmit2],
    ∀ s t : State, exec i s = .next t →
      t.enc = s.enc ∧ t.io = s.io ∧ t.plat = s.plat ∧ t.alphaOut = s.alphaOut ∧ t.request = s.request ∧ t.script = s.script ∧
        t.freeIx = s.freeIx ∧
        (i ≠ .decStart → t.dec.phase = s.dec.phase ∧ t.dec.bufs = s.dec.bufs) ∧
        (i ≠ .decStart → i ≠ .decFull → t.dec.src = s.dec.src) ∧
        (i ∈ [Instr.decFull, .decFetch k, .decShift v, .decEmit1, .decEmit2] →
          t.dec.busy = s.dec.busy ∧ t.dec.done = s.dec.done ∧ t.dec.fail = s.dec.fail ∧ t.dec.endAddr = s.dec.endAddr) ∧
        (i = .decShift v ∨ i = .decEmit1 ∨ i = .decEmit2 → t.dec.k = s.dec.k ∧ t.dec.cpad = s.dec.cpad ∧ t.rlutOut = s.rlutOut) ∧
        (i = .decStart → t.dec.endAddr = s.dec.endAddr ∧ t.rlutOut = s.rlutOut) ∧
        (i = .decStart ∨ i = .decEnd0 ∨ i = .decFailB → t.dec.cpad = s.dec.cpad) ∧
        (i = .decStart ∨ i = .decEnd0 ∨ i = .decFetch k ∨ i = .decEmit1 ∨ i = .decEmit2 → t.dec.sh = s.dec.sh) ∧
        (i = .decEnd0 ∨ i = .decFailB ∨ i = .decFetch k ∨ i = .decShift v → t.dec.dst = s.dec.dst) ∧
        ∀ a, a ∉ decStores i s → t.mem.get a = s.mem.get a

/-- 41_decoder.md R106, 30_encoding.md R63: between two groups, whenever the characters that decide the next can be fetched, exactly one of
the nine actions is enabled: the one the fetched classes select; the other eight are not selected, which the model shows as this refusal
(notes/assumptions/15). -/
def Obligations.OneDecoderActionEnabled : Prop :=
  ∀ (s : State) (w : Byte), s.dec.busy = true → s.dec.phase = .read1 → decGroupWord s = .ok w →
    ∃ i ∈ [Instr.decEnd0, .decFailB, .decFailC, .decFailD, .decFailDP, .decFailPD, .decEnd1, .decEnd2, .decFull],
      decodeDecAct w = .ok i ∧ (∀ r, exec i s ≠ .refused r) ∧
        ∀ j ∈ [Instr.decEnd0, .decFailB, .decFailC, .decFailD, .decFailDP, .decFailPD, .decEnd1, .decEnd2, .decFull],
          j ≠ i → exec j s = .refused .notSelected

/-! ## The exception -/

/-- 60_exceptions.md R113: each of the five failing actions, when it completes, leaves exactly `D.end = 0`, `D.fail = 1`, `D.busy = 0`,
`D.done = 1`. -/
def Obligations.MalformedInputEntry : Prop :=
  ∀ i ∈ [Instr.decFailB, .decFailC, .decFailD, .decFailDP, .decFailPD], ∀ s t : State, exec i s = .next t →
    t.dec.endAddr = 0 ∧ t.dec.fail = true ∧ t.dec.busy = false ∧ t.dec.done = true

/-- 60_exceptions.md R111, R79: nothing raises the exception but the five failing actions, by themselves or inside a whole `DECODE`: no other
row sets `D.fail`. -/
def Obligations.OnlyFiveActionsRaiseMalformedInput : Prop :=
  ∀ (i : Instr) (s t : State), exec i s = .next t → s.dec.fail = false → t.dec.fail = true →
    i ∈ [Instr.decFailB, .decFailC, .decFailD, .decFailDP, .decFailPD, .decode]

/-- 60_exceptions.md R116, 10_state.md R14, R15, R17, R18: a completed unit's result stays on its ports, whatever else the machine does, as
long as no command is presented to that unit, no reset is asserted and nothing is on the model's request channel
(notes/assumptions/13). -/
def Obligations.ResultsAreHeld : Prop :=
  ∀ s t : State, s.Inv → s.io.rst = false → s.request = [] → step s = .next t →
    (s.dec.done = true → s.io.decStart = false → decResult t = decResult s) ∧
      (s.enc.done = true → s.io.encStart = false → encResult t = encResult s)

/-! ## Whole operations -/

/-- 40_encoder.md R70, R76, R77: under the caller's guarantees `ENCODE` completes; the destination holds the text of the source bytes and the
terminator, the result points at the terminator, and nothing outside the destination view and the encoder changes (the alphabet latch is
the model's own). -/
def Obligations.EncodeWritesTheText : Prop :=
  ∀ s : State, s.enc.busy = false → s.mem.wf = true →
    Views.Guaranteed s (encViews s.io.encDest s.io.encSrc s.io.encSize) (decRunning s) →
    let text := textOf (bytesAt s.mem s.io.encSrc s.io.encSize)
    ∃ t : State, exec .encode s = .next t ∧
      text.length = 4 * ((s.io.encSize + 2) / 3) ∧
      bytesAt t.mem s.io.encDest (text.length + 1) = text ++ [NUL] ∧
      encResult t = some (.ok (s.io.encDest + text.length)) ∧ t.enc.busy = false ∧ t.mem.wf = true ∧
      (∀ a, (encViews s.io.encDest s.io.encSrc s.io.encSize).dst.Outside a → t.mem.get a = s.mem.get a) ∧
      t.dec = s.dec ∧ t.io = s.io ∧ t.plat = s.plat ∧ t.request = s.request ∧ t.script = s.script ∧ t.freeIx = s.freeIx ∧
      t.rlutOut = s.rlutOut

/-- 41_decoder.md R85, R100, R101, R107: under the caller's guarantees `DECODE` of a string of `n` characters completes; exactly the decoded
bytes are written, the result is `OK` one past them or `FAIL`, and nothing outside them and the decoder changes (the lookup latch is the
model's own). -/
def Obligations.DecodeWritesTheBytes : Prop :=
  ∀ (s : State) (n : Nat), s.dec.busy = false → s.mem.wf = true → s.io.Fits s.plat.aw → strLen s s.io.decSrc = some n →
    Views.Guaranteed s (decViews s.io.decDest s.io.decSrc n) (encRunning s) →
    let r := bytesOf (bytesAt s.mem s.io.decSrc n)
    ∃ t : State, exec .decode s = .next t ∧
      r.1.length ≤ 3 * ((n + 3) / 4) ∧
      bytesAt t.mem s.io.decDest r.1.length = r.1 ∧
      decResult t = some (if r.2 then .ok (s.addr s.io.decDest r.1.length) else .fail) ∧ t.dec.busy = false ∧ t.mem.wf = true ∧
      (∀ a, a < s.io.decDest ∨ s.io.decDest + r.1.length ≤ a → t.mem.get a = s.mem.get a) ∧
      t.enc = s.enc ∧ t.io = s.io ∧ t.plat = s.plat ∧ t.request = s.request ∧ t.script = s.script ∧ t.freeIx = s.freeIx ∧
      t.alphaOut = s.alphaOut

/-- 41_decoder.md R102: for all bytes, decoding what `ENCODE` wrote gives the bytes back: a `DECODE` of the text, to any destination at which
it completes, ends in `OK` one past `size` bytes, and those are the source bytes. -/
def Obligations.DecodeOfEncodeIsTheSource : Prop :=
  ∀ (s t u : State) (dest : Nat), s.mem.wf = true → s.io.Fits s.plat.aw → dest < 2 ^ s.plat.aw →
    s.enc.busy = false → s.dec.busy = false → exec .encode s = .next t →
    exec .decode { t with io := { t.io with decDest := dest, decSrc := s.io.encDest } } = .next u →
    decResult u = some (.ok (s.addr dest s.io.encSize)) ∧
      bytesAt u.mem dest s.io.encSize = bytesAt s.mem s.io.encSrc s.io.encSize

/-- 40_encoder.md R81, R76, 70_reset_and_hazards.md R135: the two levels agree. Where the whole `ENCODE` completes, so do `ENC.START` and then the
encoder alone, stepped until it is not busy, in at most one step for each of the `size` reads and `4*ceil(size/3) + 1` writes, in the
very same state. That one step is one access is the model's choice (notes/assumptions/7): the spec counts group actions. -/
def Obligations.EncodeAgreesWithTheSteps : Prop :=
  ∀ s t : State, s.enc.busy = false → s.io.encStart = true → exec .encode s = .next t →
    ∃ u : State, exec .encStart s = .next u ∧
      runUnit .enc (s.io.encSize + (4 * ((s.io.encSize + 2) / 3) + 1)) u = .next t ∧ t.enc.busy = false

/-- 41_decoder.md R106, R100: the two levels agree. Where the whole `DECODE` completes, so do `DEC.START` and then the decoder alone, stepped
until it is not busy and at most some number of times, in the very same state. That one step is one access is the model's choice
(notes/assumptions/7). -/
def Obligations.DecodeAgreesWithTheSteps : Prop :=
  ∀ s t : State, s.dec.busy = false → s.io.decStart = true → exec .decode s = .next t →
    ∃ (u : State) (n : Nat), exec .decStart s = .next u ∧ runUnit .dec n u = .next t ∧ t.dec.busy = false

/-- 70_reset_and_hazards.md R132, 93 U11: a whole operation presented to a busy unit is ignored, with no state change. -/
def Obligations.CommandToBusyUnitIsIgnored : Prop :=
  ∀ s : State, (s.enc.busy = true → exec .encode s = .next s) ∧ (s.dec.busy = true → exec .decode s = .next s)

/-- 20_memory.md R35, R44, 70_reset_and_hazards.md R130, 93 U3, U4, U12: a command for a unit that is not busy, presented on the ports or as a
whole operation, is refused if a view wraps; if none wraps, and the two overlap; and if neither, and a buffer of the other unit's running
operation holds an address of one of them, one of the two being written. For a `DECODE` these are the views of a terminated string.
The refusals are the model's form of "a model should refuse" (notes/assumptions/8, 9). -/
def Obligations.OutsideContractIsRefused : Prop :=
  ∀ s : State,
    let refusals := fun (i : Instr) (v : Views) (busy : Bool) (w : Views) =>
      let fits := v.src.lo + v.src.len ≤ 2 ^ s.plat.aw ∧ v.dst.lo + v.dst.len ≤ 2 ^ s.plat.aw
      let overlap := ∃ a, v.src.Holds a ∧ v.dst.Holds a
      let conflict := ∃ a, (v.dst.Holds a ∧ (w.dst.Holds a ∨ w.src.Holds a)) ∨ (v.src.Holds a ∧ w.dst.Holds a)
      (¬fits → exec i s = .refused .viewWraps) ∧ (fits → overlap → exec i s = .refused .viewsOverlap) ∧
        (fits → ¬overlap → busy = true → conflict → exec i s = .refused .unitsConflict)
    (∀ i ∈ [Instr.encode, .encStart], s.enc.busy = false → (i = .encStart → s.io.encStart = true) →
      refusals i (encViews s.io.encDest s.io.encSrc s.io.encSize) s.dec.busy s.dec.bufs) ∧
    (∀ i ∈ [Instr.decode, .decStart], ∀ n, s.dec.busy = false → (i = .decStart → s.io.decStart = true) →
      strLen s s.io.decSrc = some n → refusals i (decViews s.io.decDest s.io.decSrc n) s.enc.busy s.enc.bufs)

/-- 70_reset_and_hazards.md R133, 93 U2: a whole `DECODE` with no terminator in all of memory never has a result; the model's form of it is a
fault (notes/assumptions/10). -/
def Obligations.UnterminatedDecodeHasNoResult : Prop :=
  ∀ s : State, s.dec.busy = false → (∀ a, a < 2 ^ s.plat.aw → s.mem.get a ≠ NUL) → exec .decode s = .fault .unterminated

/-- The frame of the whole operations (40_encoder.md R70, 41_decoder.md R85; 20_memory.md R36, R37): whenever one completes, the other unit, the
ports, the platform and every byte outside its destination view stay. -/
def Obligations.CommandFrame : Prop :=
  ∀ s t : State,
    (exec .encode s = .next t →
      t.dec = s.dec ∧ t.io = s.io ∧ t.plat = s.plat ∧ t.rlutOut = s.rlutOut ∧ t.request = s.request ∧ t.script = s.script ∧
        t.freeIx = s.freeIx ∧
        ∀ a, (encViews s.io.encDest s.io.encSrc s.io.encSize).dst.Outside a → t.mem.get a = s.mem.get a) ∧
    (exec .decode s = .next t →
      t.enc = s.enc ∧ t.io = s.io ∧ t.plat = s.plat ∧ t.alphaOut = s.alphaOut ∧ t.request = s.request ∧ t.script = s.script ∧
        t.freeIx = s.freeIx ∧
        ∀ n, strLen s s.io.decSrc = some n → ∀ a, (decViews s.io.decDest s.io.decSrc n).dst.Outside a →
          t.mem.get a = s.mem.get a)

/-! ## The machine's step -/

/-- A step runs the row its request channel's record selects, in the state with the channel emptied; nothing else is done around it. The
channel is the model's (notes/assumptions/13). -/
def Obligations.StepRunsTheRequestedRow : Prop :=
  ∀ (s : State) (i : Instr) (rest : List Byte), s.io.rst = false → decode s.request = .ok (i, rest) →
    step s = exec i { s with request := [] }

/-- 30_encoding.md R64, 40_encoder.md R71, R81, 20_memory.md R41: with only the encoder able to step, a step runs `ENC.START` when a command is
presented to it, and as many steps as the selected row has accesses, in the order of R41, run that row. That one step is one access is
the model's choice, where the spec has one group action a step (notes/assumptions/7). A step whose access the memory does not admit is not
made, and then nothing steps (20_memory.md R39), which the model shows as this fault (notes/assumptions/3). -/
def Obligations.StepRunsTheEncoder : Prop :=
  ∀ s : State, s.io.rst = false → s.request = [] → s.script = [] → s.dec.busy = false → s.io.decStart = false →
    (s.enc.busy = false → s.io.encStart = true → step s = exec .encStart s) ∧
    (∀ i ∈ [Instr.encG3, .encT2, .encT1, .encT0], ∀ t, exec i s = .next t → run (encAccesses i s).length s = .next t) ∧
    (s.enc.busy = true → s.plat.admits (encNext s) = false → step s = .fault (.unadmitted (encNext s)))

/-- 30_encoding.md R63, 41_decoder.md R86, R106, 20_memory.md R41: with only the decoder able to step, a step runs `DEC.START` when a command is
presented to it, and as many steps as the selected row has accesses, in the order of R41, run that row. That one step is one access is
the model's choice, where the spec has one group action a step (notes/assumptions/7). A step whose access the memory does not admit is not
made, and then nothing steps (20_memory.md R39), which the model shows as this fault (notes/assumptions/3). -/
def Obligations.StepRunsTheDecoder : Prop :=
  ∀ s : State, s.io.rst = false → s.request = [] → s.script = [] → s.enc.busy = false → s.io.encStart = false →
    (s.dec.busy = false → s.io.decStart = true → step s = exec .decStart s) ∧
    (∀ i ∈ [Instr.decEnd0, .decFailB, .decFailC, .decFailD, .decFailDP, .decFailPD, .decEnd1, .decEnd2, .decFull], ∀ t,
      exec i s = .next t → run (decAccesses i s).length s = .next t) ∧
    (s.dec.busy = true → s.plat.admits (decNext s) = false → step s = .fault (.unadmitted (decNext s)))

/-- 00_scope.md R8, 20_memory.md R45, R32: with no reset and no request, a step is the step of one of the agents that can step, in the state with
at most one more free value drawn, and of no other (notes/assumptions/6), and it changes no byte of memory but at that agent's one
access, since one step is one access in this model (notes/assumptions/7); with no agent that has anything to do, the state stays
(notes/assumptions/19). -/
def Obligations.StepIsOneAgentsStep : Prop :=
  ∀ s : State, s.io.rst = false → s.request = [] →
    (enabled s ≠ [] → ∃ x ∈ enabled s, ∃ k ≤ 1, step s = outcomeOf (agentStep { s with freeIx := s.freeIx + k } x) ∧
      ∀ t, step s = .next t → ∀ b, nextAccess s x ≠ some b → t.mem.get b = s.mem.get b) ∧
    ((∀ x : Agent, hasWork s x = false) → step s = .next s)

/-- 20_memory.md R39, 92 D14, 93 U14: a unit whose next access the memory does not admit, and a host whose next move is such a store
(notes/assumptions/26), has no step, and the others go on: no step faults while any agent can step. Only when none can, and one is stuck,
does the machine stop, at an address no memory backs (notes/assumptions/3). That a step is one access is notes/assumptions/7. -/
def Obligations.StuckUnitLetsTheOthersStep : Prop :=
  ∀ s : State, s.io.rst = false → s.request = [] →
    (s.enc.busy = true → s.plat.admits (encNext s) = false → .enc ∉ enabled s) ∧
    (s.dec.busy = true → s.plat.admits (decNext s) = false → .dec ∉ enabled s) ∧
    (∀ a v rest, s.script = .store a v :: rest → s.plat.admits a = false → .host ∉ enabled s) ∧
    (enabled s ≠ [] → ∀ f, step s ≠ .fault f) ∧
    (enabled s = [] → (∃ x a, stuckAt s x = some a) → ∃ a, s.plat.admits a = false ∧ step s = .fault (.unadmitted a))

/-- 60_exceptions.md R119, R123, 10_state.md R22: each move of the host, as the only agent that can step, does what it says to the ports or to
one byte of memory and nothing else. The script of moves is the model's (notes/assumptions/16). -/
def Obligations.HostMovesActOnPortsAndMemory : Prop :=
  ∀ (s : State) (m : HostMove) (rest : List HostMove), s.io.rst = false → s.request = [] → s.script = m :: rest →
    s.enc.busy = false → s.io.encStart = false → s.dec.busy = false → s.io.decStart = false →
    match m with
    | .driveEnc start dest src size =>
      dest < 2 ^ s.plat.aw → src < 2 ^ s.plat.aw → size < 2 ^ s.plat.aw →
        step s = .next { s with
          script := rest, io := { s.io with encStart := start, encDest := dest, encSrc := src, encSize := size } }
    | .driveDec start dest src =>
      dest < 2 ^ s.plat.aw → src < 2 ^ s.plat.aw →
        step s = .next { s with script := rest, io := { s.io with decStart := start, decDest := dest, decSrc := src } }
    | .driveRst level => step s = .next { s with script := rest, io := { s.io with rst := level } }
    | .store a v => s.plat.admits a = true → step s = .next { s with script := rest, mem := s.mem.set a v }

/-- 70_reset_and_hazards.md R125, R126, 60_exceptions.md R114, 10_state.md R22, 93 U14: while `rst = 1` a step forces both units to
`IDLE`, whatever they were doing and whatever was presented, with no access in progress and no result shown. Memory keeps every byte:
what a running operation has written stays, and nothing more is written. The host, which drives `rst`, makes its next move in the same
step, if it has one that the memory admits (notes/assumptions/16). The other registers' values are free (notes/assumptions/5); the place
in the group (notes/assumptions/7), the list of moves (notes/assumptions/16) and the request channel (notes/assumptions/13) are the
model's, and so are that a driven argument is taken modulo `2 ^ AW` and that a store the memory does not admit waits
(notes/assumptions/26). -/
def Obligations.ResetForcesBothUnitsIdle : Prop :=
  ∀ s : State, s.io.rst = true →
    ∃ t : State, step s = .next t ∧ t.enc.busy = false ∧ t.enc.done = false ∧ t.dec.busy = false ∧
      t.dec.done = false ∧ t.dec.fail = false ∧ t.enc.phase = .read1 ∧ t.dec.phase = .read1 ∧ encResult t = none ∧
      decResult t = none ∧ t.plat = s.plat ∧ t.request = [] ∧
      match s.script with
      | [] => t.io = s.io ∧ t.mem = s.mem ∧ t.script = []
      | .driveRst level :: rest => t.io = { s.io with rst := level } ∧ t.mem = s.mem ∧ t.script = rest
      | .driveEnc start dest src size :: rest =>
        t.io = { s.io with
          encStart := start, encDest := dest % 2 ^ s.plat.aw, encSrc := src % 2 ^ s.plat.aw, encSize := size % 2 ^ s.plat.aw } ∧
          t.mem = s.mem ∧ t.script = rest
      | .driveDec start dest src :: rest =>
        t.io = { s.io with decStart := start, decDest := dest % 2 ^ s.plat.aw, decSrc := src % 2 ^ s.plat.aw } ∧
          t.mem = s.mem ∧ t.script = rest
      | .store a v :: rest =>
        t.io = s.io ∧
          (s.plat.admits a = true → t.mem = s.mem.set a v ∧ t.script = rest) ∧
          (s.plat.admits a = false → t.mem = s.mem ∧ t.script = s.script)

/-- 10_state.md R27: after reset both units are `IDLE` and no result is shown. That no agent can step and a step changes nothing rests on the
reset values of `rst`, `enc_start` and `dec_start` that notes/assumptions/4 names, and on notes/assumptions/19. -/
def Obligations.ResetStateIsIdle : Prop :=
  State.reset.enc.busy = false ∧ State.reset.enc.done = false ∧ State.reset.dec.busy = false ∧ State.reset.dec.done = false ∧
    State.reset.dec.fail = false ∧ encResult State.reset = none ∧ decResult State.reset = none ∧ enabled State.reset = [] ∧
    step State.reset = .next State.reset

/-- The machine's invariant holds right after reset (10_state.md R14, R17, R27). -/
def Obligations.ResetMeetsTheInvariant : Prop :=
  State.reset.Inv

/-- Every step keeps the invariant: register and port widths, `busy` and `done` never both 1 (10_state.md R14, R17), a shown failure has end
pointer 0 (R18), a group in progress only in a busy encoder or decoder and, for the encoder, only as far as the row's bytes go
(30_encoding.md R64; the place in the group is the model's, notes/assumptions/7), the memory's canonical form within the address space
(20_memory.md R30). -/
def Obligations.StepKeepsTheInvariant : Prop :=
  ∀ s t : State, s.Inv → step s = .next t → t.Inv

/-- 00_scope.md R4, 10_state.md R10: the address width and the backed addresses are parameters: no step changes them. The buffers remembered for
a running operation (70_reset_and_hazards.md R130; notes/assumptions/9) stay as long as it is `BUSY`. -/
def Obligations.StepKeepsTheParameters : Prop :=
  ∀ s t : State, step s = .next t →
    t.plat = s.plat ∧ (s.enc.busy = true → t.enc.busy = true → t.enc.bufs = s.enc.bufs) ∧
      (s.dec.busy = true → t.dec.busy = true → t.dec.bufs = s.dec.bufs)

/-- 10_state.md R26: no rule of the encoder's step level reads or writes a decoder register, and no rule of the decoder's reads or writes an
encoder register: changing the other unit before a step-level row, or before one access (a step of this model, notes/assumptions/7), is the same as
changing it after. For `ENC.START` and `DEC.START` this is said of commands accepted in both states, since the model's refusal of a
command looks at the other unit's buffers (notes/assumptions/9), as the rows `ENCODE` and `DECODE` do, of which this says nothing. -/
def Obligations.UnitsShareNoRegister : Prop :=
  ∀ (s : State) (e : EncUnit) (d : DecUnit) (k : Nat) (v : Sextet),
    (∀ i ∈ [Instr.encG3, .encT2, .encT1, .encT0],
      exec i { s with dec := d } = onNext (fun t => { t with dec := d }) (exec i s)) ∧
    (∀ i ∈ [Instr.decEnd0, .decFailB, .decFailC, .decFailD, .decFailDP, .decFailPD, .decEnd1, .decEnd2, .decFull,
      .decFetch k, .decShift v, .decEmit1, .decEmit2],
      exec i { s with enc := e } = onNext (fun t => { t with enc := e }) (exec i s)) ∧
    answer (encAccess { s with dec := d }) = onNext (fun t => { t with dec := d }) (answer (encAccess s)) ∧
    answer (decAccess { s with enc := e }) = onNext (fun t => { t with enc := e }) (answer (decAccess s)) ∧
    (∀ t u, exec .encStart s = .next t → exec .encStart { s with dec := d } = .next u → u = { t with dec := d }) ∧
    ∀ t u, exec .decStart s = .next t → exec .decStart { s with enc := e } = .next u → u = { t with enc := e }
end

