-- ==== Sys2Proof/Laws/Operands.lean ====
section
/-!
SUPPORT. The bits of the group and of the shifter (30_encoding.md R57; 41_decoder.md R88), and the class codes (R61).
-/

namespace Sys2Proof.Machine

/-- Bit `i` of the group `{a, b, c}` (R57). -/
theorem joinBytes_bit (a b c : Byte) (i : Nat) :
    (joinBytes a b c).getLsbD i =
      if i < 8 then c.getLsbD i else if i < 16 then b.getLsbD (i - 8) else a.getLsbD (i - 16) := by
  change (a ++ b ++ c : BitVec (8 + 8 + 8)).getLsbD i = _
  rw [BitVec.getLsbD_append, BitVec.getLsbD_append]
  by_cases h : i < 8
  · simp [h]
  · by_cases h' : i < 16
    · simp [h, h', show i - 8 < 8 by omega]
    · simp [h, h', show ¬i - 8 < 8 by omega, show i - 8 - 8 = i - 16 by omega]

/-- Bit `i` of the shifter after one more sextet (R88). -/
theorem shiftIn_bit (sh : Group) (v : Sextet) (i : Nat) :
    (shiftIn sh v).getLsbD i = if i < 6 then v.getLsbD i else decide (i < 24) && sh.getLsbD (i - 6) := by
  change (sh.extractLsb' 0 18 ++ v : BitVec (18 + 6)).getLsbD i = _
  rw [BitVec.getLsbD_append, BitVec.getLsbD_extractLsb']
  by_cases h : i < 6
  · simp [h]
  · by_cases h' : i < 24
    · simp [h, h', show i - 6 < 18 by omega]
    · simp [h, h', show ¬i - 6 < 18 by omega]

theorem classCode_data (v : Sextet) : classCode (.data v) = 0b00#2 := by
  apply BitVec.eq_of_getLsbD_eq
  intro i hi
  have : i = 0 ∨ i = 1 := by omega
  rcases this with rfl | rfl <;> simp [classCode, storedForm]

@[simp] theorem classCode_pad : classCode .pad = 0b11#2 := rfl

@[simp] theorem classCode_notB64 : classCode .notB64 = 0b10#2 := rfl

end Sys2Proof.Machine
end

