-- ==== Sys2Proof/Laws/Memory.lean ====
section
/-!
SUPPORT. The laws of memory (20_memory.md R32): a read after a write, a write elsewhere, and that every memory operation keeps the
canonical form.
-/

namespace Sys2Proof.Machine

@[simp] theorem Memory.get_nil (a : Nat) : Memory.get [] a = Memory.unlisted := rfl

@[simp] theorem Memory.wf_nil : Memory.wf [] = true := rfl

theorem Memory.get_cons (b : Nat) (v : Byte) (m : Memory) (a : Nat) :
    Memory.get ((b, v) :: m) a = if b = a then v else Memory.get m a := rfl

theorem Memory.risesFrom_cons {lo a : Nat} {v : Byte} {m : Memory} :
    Memory.risesFrom lo ((a, v) :: m) = true ↔ lo ≤ a ∧ v ≠ Memory.unlisted ∧ Memory.risesFrom (a + 1) m = true := by
  simp [Memory.risesFrom, and_assoc]

theorem Memory.risesFrom_mono {lo lo' : Nat} {m : Memory} (h : Memory.risesFrom lo m = true) (hl : lo' ≤ lo) :
    Memory.risesFrom lo' m = true := by
  cases m with
  | nil => rfl
  | cons c rest =>
    obtain ⟨a, v⟩ := c
    rw [Memory.risesFrom_cons] at h ⊢
    exact ⟨Nat.le_trans hl h.1, h.2⟩

/-- Below its lowest cell a canonical memory lists nothing. -/
theorem Memory.get_below {lo a : Nat} {m : Memory} (h : Memory.risesFrom lo m = true) (ha : a < lo) :
    m.get a = Memory.unlisted := by
  induction m generalizing lo with
  | nil => rfl
  | cons c rest ih =>
    obtain ⟨b, v⟩ := c
    rw [Memory.risesFrom_cons] at h
    rw [Memory.get_cons, if_neg (by omega)]
    exact ih h.2.2 (by omega)

theorem Memory.get_consCell_other (a b : Nat) (v : Byte) (m : Memory) (h : b ≠ a) :
    (Memory.cons a v m).get b = m.get b := by
  unfold Memory.cons
  split
  · rfl
  · rw [Memory.get_cons, if_neg (Ne.symm h)]

theorem Memory.get_consCell_same {lo a : Nat} (v : Byte) {m : Memory} (h : Memory.risesFrom lo m = true) (ha : a < lo) :
    (Memory.cons a v m).get a = v := by
  unfold Memory.cons
  split
  · next hv => rw [Memory.get_below h ha, hv]
  · rw [Memory.get_cons, if_pos rfl]

/-- A write leaves every other address alone (R32). -/
theorem Memory.get_set_other (m : Memory) (a b : Nat) (v : Byte) (h : b ≠ a) : (m.set a v).get b = m.get b := by
  induction m with
  | nil => exact Memory.get_consCell_other a b v [] h
  | cons c rest ih =>
    obtain ⟨d, w⟩ := c
    simp only [Memory.set]
    split
    · exact Memory.get_consCell_other a b v _ h
    · split
      · next hd => rw [Memory.get_consCell_other a b v _ h, Memory.get_cons, if_neg (by omega)]
      · rw [Memory.get_cons, Memory.get_cons, ih]

theorem Memory.get_set_same_from {lo : Nat} {m : Memory} (a : Nat) (v : Byte) (h : Memory.risesFrom lo m = true) :
    (m.set a v).get a = v := by
  induction m generalizing lo with
  | nil => exact Memory.get_consCell_same (lo := a + 1) v rfl (by omega)
  | cons c rest ih =>
    obtain ⟨d, w⟩ := c
    have h' := h
    rw [Memory.risesFrom_cons] at h
    simp only [Memory.set]
    split
    · next hd =>
      exact Memory.get_consCell_same (lo := d) v (Memory.risesFrom_cons.2 ⟨Nat.le_refl d, h.2⟩) hd
    · split
      · next hd => exact Memory.get_consCell_same v h.2.2 (by omega)
      · next hd => rw [Memory.get_cons, if_neg (by omega)]; exact ih h.2.2

/-- A read after a write to the same address gives the value written (R32). -/
theorem Memory.get_set_same {m : Memory} (a : Nat) (v : Byte) (h : m.wf = true) : (m.set a v).get a = v :=
  Memory.get_set_same_from a v h

theorem Memory.get_set {m : Memory} (a b : Nat) (v : Byte) (h : m.wf = true) :
    (m.set a v).get b = if b = a then v else m.get b := by
  split
  · next hb => subst hb; exact Memory.get_set_same _ _ h
  · next hb => exact Memory.get_set_other _ _ _ _ hb

theorem Memory.risesFrom_consCell {lo a : Nat} (v : Byte) {m : Memory} (h : Memory.risesFrom (a + 1) m = true) (hl : lo ≤ a) :
    Memory.risesFrom lo (Memory.cons a v m) = true := by
  unfold Memory.cons
  split
  · exact Memory.risesFrom_mono h (by omega)
  · next hv => exact Memory.risesFrom_cons.2 ⟨hl, hv, h⟩

theorem Memory.risesFrom_set {lo a : Nat} {m : Memory} (v : Byte) (h : Memory.risesFrom lo m = true) (ha : lo ≤ a) :
    Memory.risesFrom lo (m.set a v) = true := by
  induction m generalizing lo with
  | nil => exact Memory.risesFrom_consCell v rfl ha
  | cons c rest ih =>
    obtain ⟨d, w⟩ := c
    rw [Memory.risesFrom_cons] at h
    simp only [Memory.set]
    split
    · next hd => exact Memory.risesFrom_consCell v (Memory.risesFrom_cons.2 ⟨by omega, h.2⟩) ha
    · split
      · next hd => exact Memory.risesFrom_consCell v (hd ▸ h.2.2) ha
      · next hd => exact Memory.risesFrom_cons.2 ⟨h.1, h.2.1, ih h.2.2 (by omega)⟩

/-- A write keeps the canonical form. -/
theorem Memory.wf_set {m : Memory} (a : Nat) (v : Byte) (h : m.wf = true) : (m.set a v).wf = true :=
  Memory.risesFrom_set v h (Nat.zero_le a)

/-- A run of writes keeps the canonical form. -/
theorem Memory.wf_setAll (aw : Nat) {m : Memory} (a : Nat) (bs : List Byte) (h : m.wf = true) :
    (Memory.setAll aw m a bs).wf = true := by
  induction bs generalizing m a with
  | nil => exact h
  | cons b rest ih => exact ih _ (Memory.wf_set a b h)

theorem Memory.mem_consCell {a : Nat} {v : Byte} {m : Memory} {c : Host.Cell} (h : c ∈ Memory.cons a v m) :
    c.1 = a ∨ c ∈ m := by
  unfold Memory.cons at h
  split at h
  · exact .inr h
  · rcases List.mem_cons.1 h with rfl | h
    · exact .inl rfl
    · exact .inr h

/-- A write lists no address but its own and those listed before. -/
theorem Memory.mem_set {m : Memory} {a : Nat} {v : Byte} {c : Host.Cell} (h : c ∈ m.set a v) : c.1 = a ∨ c ∈ m := by
  induction m with
  | nil => exact Memory.mem_consCell h
  | cons d rest ih =>
    obtain ⟨b, w⟩ := d
    simp only [Memory.set] at h
    split at h
    · exact Memory.mem_consCell h
    · split at h
      · rcases Memory.mem_consCell h with h | h
        · exact .inl h
        · exact .inr (List.mem_cons_of_mem _ h)
      · rcases List.mem_cons.1 h with rfl | h
        · exact .inr List.mem_cons_self
        · rcases ih h with h | h
          · exact .inl h
          · exact .inr (List.mem_cons_of_mem _ h)

end Sys2Proof.Machine
end

