-- ==== Sys2Proof/Laws/State.lean ====
section
/-!
SUPPORT. What each update of State leaves in each field: one lemma per field per update.
-/

namespace Sys2Proof.Machine.State

@[simp] theorem withEnc_plat (s : State) (x : EncUnit) : (s.withEnc x).plat = s.plat := rfl
@[simp] theorem withEnc_enc (s : State) (x : EncUnit) : (s.withEnc x).enc = x := rfl
@[simp] theorem withEnc_dec (s : State) (x : EncUnit) : (s.withEnc x).dec = s.dec := rfl
@[simp] theorem withEnc_io (s : State) (x : EncUnit) : (s.withEnc x).io = s.io := rfl
@[simp] theorem withEnc_mem (s : State) (x : EncUnit) : (s.withEnc x).mem = s.mem := rfl
@[simp] theorem withEnc_alphaOut (s : State) (x : EncUnit) : (s.withEnc x).alphaOut = s.alphaOut := rfl
@[simp] theorem withEnc_rlutOut (s : State) (x : EncUnit) : (s.withEnc x).rlutOut = s.rlutOut := rfl
@[simp] theorem withEnc_request (s : State) (x : EncUnit) : (s.withEnc x).request = s.request := rfl
@[simp] theorem withEnc_script (s : State) (x : EncUnit) : (s.withEnc x).script = s.script := rfl
@[simp] theorem withEnc_freeIx (s : State) (x : EncUnit) : (s.withEnc x).freeIx = s.freeIx := rfl

@[simp] theorem withDec_plat (s : State) (x : DecUnit) : (s.withDec x).plat = s.plat := rfl
@[simp] theorem withDec_enc (s : State) (x : DecUnit) : (s.withDec x).enc = s.enc := rfl
@[simp] theorem withDec_dec (s : State) (x : DecUnit) : (s.withDec x).dec = x := rfl
@[simp] theorem withDec_io (s : State) (x : DecUnit) : (s.withDec x).io = s.io := rfl
@[simp] theorem withDec_mem (s : State) (x : DecUnit) : (s.withDec x).mem = s.mem := rfl
@[simp] theorem withDec_alphaOut (s : State) (x : DecUnit) : (s.withDec x).alphaOut = s.alphaOut := rfl
@[simp] theorem withDec_rlutOut (s : State) (x : DecUnit) : (s.withDec x).rlutOut = s.rlutOut := rfl
@[simp] theorem withDec_request (s : State) (x : DecUnit) : (s.withDec x).request = s.request := rfl
@[simp] theorem withDec_script (s : State) (x : DecUnit) : (s.withDec x).script = s.script := rfl
@[simp] theorem withDec_freeIx (s : State) (x : DecUnit) : (s.withDec x).freeIx = s.freeIx := rfl

@[simp] theorem withIo_plat (s : State) (x : Ports) : (s.withIo x).plat = s.plat := rfl
@[simp] theorem withIo_enc (s : State) (x : Ports) : (s.withIo x).enc = s.enc := rfl
@[simp] theorem withIo_dec (s : State) (x : Ports) : (s.withIo x).dec = s.dec := rfl
@[simp] theorem withIo_io (s : State) (x : Ports) : (s.withIo x).io = x := rfl
@[simp] theorem withIo_mem (s : State) (x : Ports) : (s.withIo x).mem = s.mem := rfl
@[simp] theorem withIo_alphaOut (s : State) (x : Ports) : (s.withIo x).alphaOut = s.alphaOut := rfl
@[simp] theorem withIo_rlutOut (s : State) (x : Ports) : (s.withIo x).rlutOut = s.rlutOut := rfl
@[simp] theorem withIo_request (s : State) (x : Ports) : (s.withIo x).request = s.request := rfl
@[simp] theorem withIo_script (s : State) (x : Ports) : (s.withIo x).script = s.script := rfl
@[simp] theorem withIo_freeIx (s : State) (x : Ports) : (s.withIo x).freeIx = s.freeIx := rfl

@[simp] theorem withMem_plat (s : State) (x : Memory) : (s.withMem x).plat = s.plat := rfl
@[simp] theorem withMem_enc (s : State) (x : Memory) : (s.withMem x).enc = s.enc := rfl
@[simp] theorem withMem_dec (s : State) (x : Memory) : (s.withMem x).dec = s.dec := rfl
@[simp] theorem withMem_io (s : State) (x : Memory) : (s.withMem x).io = s.io := rfl
@[simp] theorem withMem_mem (s : State) (x : Memory) : (s.withMem x).mem = x := rfl
@[simp] theorem withMem_alphaOut (s : State) (x : Memory) : (s.withMem x).alphaOut = s.alphaOut := rfl
@[simp] theorem withMem_rlutOut (s : State) (x : Memory) : (s.withMem x).rlutOut = s.rlutOut := rfl
@[simp] theorem withMem_request (s : State) (x : Memory) : (s.withMem x).request = s.request := rfl
@[simp] theorem withMem_script (s : State) (x : Memory) : (s.withMem x).script = s.script := rfl
@[simp] theorem withMem_freeIx (s : State) (x : Memory) : (s.withMem x).freeIx = s.freeIx := rfl

@[simp] theorem withAlphaOut_plat (s : State) (x : Byte) : (s.withAlphaOut x).plat = s.plat := rfl
@[simp] theorem withAlphaOut_enc (s : State) (x : Byte) : (s.withAlphaOut x).enc = s.enc := rfl
@[simp] theorem withAlphaOut_dec (s : State) (x : Byte) : (s.withAlphaOut x).dec = s.dec := rfl
@[simp] theorem withAlphaOut_io (s : State) (x : Byte) : (s.withAlphaOut x).io = s.io := rfl
@[simp] theorem withAlphaOut_mem (s : State) (x : Byte) : (s.withAlphaOut x).mem = s.mem := rfl
@[simp] theorem withAlphaOut_alphaOut (s : State) (x : Byte) : (s.withAlphaOut x).alphaOut = x := rfl
@[simp] theorem withAlphaOut_rlutOut (s : State) (x : Byte) : (s.withAlphaOut x).rlutOut = s.rlutOut := rfl
@[simp] theorem withAlphaOut_request (s : State) (x : Byte) : (s.withAlphaOut x).request = s.request := rfl
@[simp] theorem withAlphaOut_script (s : State) (x : Byte) : (s.withAlphaOut x).script = s.script := rfl
@[simp] theorem withAlphaOut_freeIx (s : State) (x : Byte) : (s.withAlphaOut x).freeIx = s.freeIx := rfl

@[simp] theorem withRlutOut_plat (s : State) (x : CharClass) : (s.withRlutOut x).plat = s.plat := rfl
@[simp] theorem withRlutOut_enc (s : State) (x : CharClass) : (s.withRlutOut x).enc = s.enc := rfl
@[simp] theorem withRlutOut_dec (s : State) (x : CharClass) : (s.withRlutOut x).dec = s.dec := rfl
@[simp] theorem withRlutOut_io (s : State) (x : CharClass) : (s.withRlutOut x).io = s.io := rfl
@[simp] theorem withRlutOut_mem (s : State) (x : CharClass) : (s.withRlutOut x).mem = s.mem := rfl
@[simp] theorem withRlutOut_alphaOut (s : State) (x : CharClass) : (s.withRlutOut x).alphaOut = s.alphaOut := rfl
@[simp] theorem withRlutOut_rlutOut (s : State) (x : CharClass) : (s.withRlutOut x).rlutOut = x := rfl
@[simp] theorem withRlutOut_request (s : State) (x : CharClass) : (s.withRlutOut x).request = s.request := rfl
@[simp] theorem withRlutOut_script (s : State) (x : CharClass) : (s.withRlutOut x).script = s.script := rfl
@[simp] theorem withRlutOut_freeIx (s : State) (x : CharClass) : (s.withRlutOut x).freeIx = s.freeIx := rfl

@[simp] theorem withRequest_plat (s : State) (x : List Byte) : (s.withRequest x).plat = s.plat := rfl
@[simp] theorem withRequest_enc (s : State) (x : List Byte) : (s.withRequest x).enc = s.enc := rfl
@[simp] theorem withRequest_dec (s : State) (x : List Byte) : (s.withRequest x).dec = s.dec := rfl
@[simp] theorem withRequest_io (s : State) (x : List Byte) : (s.withRequest x).io = s.io := rfl
@[simp] theorem withRequest_mem (s : State) (x : List Byte) : (s.withRequest x).mem = s.mem := rfl
@[simp] theorem withRequest_alphaOut (s : State) (x : List Byte) : (s.withRequest x).alphaOut = s.alphaOut := rfl
@[simp] theorem withRequest_rlutOut (s : State) (x : List Byte) : (s.withRequest x).rlutOut = s.rlutOut := rfl
@[simp] theorem withRequest_request (s : State) (x : List Byte) : (s.withRequest x).request = x := rfl
@[simp] theorem withRequest_script (s : State) (x : List Byte) : (s.withRequest x).script = s.script := rfl
@[simp] theorem withRequest_freeIx (s : State) (x : List Byte) : (s.withRequest x).freeIx = s.freeIx := rfl

@[simp] theorem withScript_plat (s : State) (x : List HostMove) : (s.withScript x).plat = s.plat := rfl
@[simp] theorem withScript_enc (s : State) (x : List HostMove) : (s.withScript x).enc = s.enc := rfl
@[simp] theorem withScript_dec (s : State) (x : List HostMove) : (s.withScript x).dec = s.dec := rfl
@[simp] theorem withScript_io (s : State) (x : List HostMove) : (s.withScript x).io = s.io := rfl
@[simp] theorem withScript_mem (s : State) (x : List HostMove) : (s.withScript x).mem = s.mem := rfl
@[simp] theorem withScript_alphaOut (s : State) (x : List HostMove) : (s.withScript x).alphaOut = s.alphaOut := rfl
@[simp] theorem withScript_rlutOut (s : State) (x : List HostMove) : (s.withScript x).rlutOut = s.rlutOut := rfl
@[simp] theorem withScript_request (s : State) (x : List HostMove) : (s.withScript x).request = s.request := rfl
@[simp] theorem withScript_script (s : State) (x : List HostMove) : (s.withScript x).script = x := rfl
@[simp] theorem withScript_freeIx (s : State) (x : List HostMove) : (s.withScript x).freeIx = s.freeIx := rfl

@[simp] theorem withFreeIx_plat (s : State) (x : Nat) : (s.withFreeIx x).plat = s.plat := rfl
@[simp] theorem withFreeIx_enc (s : State) (x : Nat) : (s.withFreeIx x).enc = s.enc := rfl
@[simp] theorem withFreeIx_dec (s : State) (x : Nat) : (s.withFreeIx x).dec = s.dec := rfl
@[simp] theorem withFreeIx_io (s : State) (x : Nat) : (s.withFreeIx x).io = s.io := rfl
@[simp] theorem withFreeIx_mem (s : State) (x : Nat) : (s.withFreeIx x).mem = s.mem := rfl
@[simp] theorem withFreeIx_alphaOut (s : State) (x : Nat) : (s.withFreeIx x).alphaOut = s.alphaOut := rfl
@[simp] theorem withFreeIx_rlutOut (s : State) (x : Nat) : (s.withFreeIx x).rlutOut = s.rlutOut := rfl
@[simp] theorem withFreeIx_request (s : State) (x : Nat) : (s.withFreeIx x).request = s.request := rfl
@[simp] theorem withFreeIx_script (s : State) (x : Nat) : (s.withFreeIx x).script = s.script := rfl
@[simp] theorem withFreeIx_freeIx (s : State) (x : Nat) : (s.withFreeIx x).freeIx = x := rfl

end Sys2Proof.Machine.State
end

