-- ==== Sys2Proof/Laws/Ops.lean ====
section
/-!
SUPPORT. What each shared operation can do, said once: when it answers, and with what. Later proofs cite these lemmas and do not unfold
the operations.
-/

namespace Sys2Proof.Machine

/-! ## Answers -/

theorem bind_ok {α β : Type} {x : Res α} {f : α → Res β} {b : β} :
    (x >>= f) = .ok b ↔ ∃ a, x = .ok a ∧ f a = .ok b := by
  cases x with
  | error e => exact ⟨(fun h => nomatch h), fun ⟨_, h, _⟩ => nomatch h⟩
  | ok a => exact ⟨fun h => ⟨a, rfl, h⟩, fun ⟨_, h, h'⟩ => by cases h; exact h'⟩

@[simp] theorem ok_bind {α β : Type} (a : α) (f : α → Res β) : ((Except.ok a : Res α) >>= f) = f a := rfl

@[simp] theorem error_bind {α β : Type} (e : Stop) (f : α → Res β) : ((Except.error e : Res α) >>= f) = .error e := rfl

@[simp] theorem refuse_bind {α β : Type} (r : Refusal) (f : α → Res β) : ((refuse r : Res α) >>= f) = refuse r := rfl

theorem refuse_ne_ok {α : Type} (r : Refusal) (a : α) : (refuse r : Res α) ≠ .ok a := fun h => nomatch h

/-- A meaning answers a next state exactly when its operation answers that state. -/
theorem answer_eq_next {r : Res State} {t : State} : answer r = .next t ↔ r = .ok t := by
  rcases r with (f | f) | u
  · exact ⟨(fun h => nomatch h), fun h => nomatch h⟩
  · exact ⟨(fun h => nomatch h), fun h => nomatch h⟩
  · exact ⟨fun h => by cases h; rfl, fun h => by cases h; rfl⟩

@[simp] theorem answer_ok (t : State) : answer (.ok t) = .next t := rfl

@[simp] theorem answer_refuse (r : Refusal) : answer (refuse r) = .refused r := rfl

/-! ## Addresses -/

theorem addA_lt (aw p k : Nat) : addA aw p k < 2 ^ aw := Nat.mod_lt _ (Nat.two_pow_pos aw)

theorem addr_lt (s : State) (p k : Nat) : s.addr p k < 2 ^ s.plat.aw := addA_lt _ _ _

theorem addr_of_lt {s : State} {p k : Nat} (h : p + k < 2 ^ s.plat.aw) : s.addr p k = p + k := Nat.mod_eq_of_lt h

/-- What the memory admits lies in the address space. -/
theorem lt_of_admits {p : Platform} {a : Nat} (h : p.admits a = true) : a < 2 ^ p.aw := by
  simp only [Platform.admits, Bool.and_eq_true, decide_eq_true_eq] at h
  exact h.1

/-! ## Bytes of memory -/

theorem readByte_ok {s : State} {a : Nat} {v : Byte} :
    readByte s a = .ok v ↔ s.plat.admits a = true ∧ v = s.mem.get a := by
  unfold readByte
  split
  · next h => exact ⟨fun hv => by cases hv; exact ⟨h, rfl⟩, fun hv => by rw [hv.2]⟩
  · next h => exact ⟨(fun hv => nomatch hv), fun hv => absurd hv.1 h⟩

theorem readByte_admitted {s : State} {a : Nat} (h : s.plat.admits a = true) : readByte s a = .ok (s.mem.get a) :=
  readByte_ok.2 ⟨h, rfl⟩

theorem readByte_stuck {s : State} {a : Nat} (h : s.plat.admits a = false) :
    readByte s a = .error (.fault (.unadmitted a)) := by
  simp [readByte, h]

theorem writeByte_ok {s t : State} {a : Nat} {v : Byte} :
    writeByte s a v = .ok t ↔ s.plat.admits a = true ∧ t = s.withMem (s.mem.set a v) := by
  unfold writeByte
  split
  · next h => exact ⟨fun hv => by cases hv; exact ⟨h, rfl⟩, fun hv => by rw [hv.2]⟩
  · next h => exact ⟨(fun hv => nomatch hv), fun hv => absurd hv.1 h⟩

theorem writeByte_admitted {s : State} {a : Nat} (v : Byte) (h : s.plat.admits a = true) :
    writeByte s a v = .ok (s.withMem (s.mem.set a v)) :=
  writeByte_ok.2 ⟨h, rfl⟩

theorem writeByte_stuck {s : State} {a : Nat} (v : Byte) (h : s.plat.admits a = false) :
    writeByte s a v = .error (.fault (.unadmitted a)) := by
  simp [writeByte, h]

theorem writeSextet_ok {s t : State} {a : Nat} {v : Sextet} :
    writeSextet s a v = .ok t ↔
      s.plat.admits a = true ∧ t = (s.withAlphaOut (alphaAt v)).withMem (s.mem.set a (alphaAt v)) :=
  writeByte_ok

theorem writeSextet_admitted {s : State} {a : Nat} (v : Sextet) (h : s.plat.admits a = true) :
    writeSextet s a v = .ok ((s.withAlphaOut (alphaAt v)).withMem (s.mem.set a (alphaAt v))) :=
  writeSextet_ok.2 ⟨h, rfl⟩

/-! ## The decoder's sub-operations -/

theorem fetch_ok {k : Nat} {s t : State} :
    fetch k s = .ok t ↔
      s.plat.admits (s.addr s.dec.src k) = true ∧ t = fetched k (classify (s.mem.get (s.addr s.dec.src k))) s := by
  unfold fetch
  rw [bind_ok]
  constructor
  · rintro ⟨ch, h, ht⟩
    rw [readByte_ok] at h
    cases ht
    exact ⟨h.1, by rw [h.2]⟩
  · rintro ⟨h, rfl⟩
    exact ⟨_, readByte_admitted h, rfl⟩

theorem fetch_admitted {k : Nat} {s : State} (h : s.plat.admits (s.addr s.dec.src k) = true) :
    fetch k s = .ok (fetched k (classify (s.mem.get (s.addr s.dec.src k))) s) :=
  fetch_ok.2 ⟨h, rfl⟩

theorem fetch_stuck {k : Nat} {s : State} (h : s.plat.admits (s.addr s.dec.src k) = false) :
    fetch k s = .error (.fault (.unadmitted (s.addr s.dec.src k))) := by
  unfold fetch
  rw [readByte_stuck h]
  rfl

theorem emit_ok {v : Byte} {s t : State} :
    emit v s = .ok t ↔ s.plat.admits s.dec.dst = true ∧ t = dstAdvanced (s.withMem (s.mem.set s.dec.dst v)) := by
  unfold emit
  rw [bind_ok]
  constructor
  · rintro ⟨u, h, ht⟩
    rw [writeByte_ok] at h
    cases ht
    exact ⟨h.1, by rw [h.2]⟩
  · rintro ⟨h, rfl⟩
    exact ⟨_, writeByte_admitted v h, rfl⟩

theorem emit_admitted (v : Byte) {s : State} (h : s.plat.admits s.dec.dst = true) :
    emit v s = .ok (dstAdvanced (s.withMem (s.mem.set s.dec.dst v))) :=
  emit_ok.2 ⟨h, rfl⟩

/-! ## What the sub-operations leave in each field -/

@[simp] theorem fetched_plat (k : Nat) (x : CharClass) (s : State) : (fetched k x s).plat = s.plat := rfl
@[simp] theorem fetched_enc (k : Nat) (x : CharClass) (s : State) : (fetched k x s).enc = s.enc := rfl
@[simp] theorem fetched_io (k : Nat) (x : CharClass) (s : State) : (fetched k x s).io = s.io := rfl
@[simp] theorem fetched_mem (k : Nat) (x : CharClass) (s : State) : (fetched k x s).mem = s.mem := rfl
@[simp] theorem fetched_rlutOut (k : Nat) (x : CharClass) (s : State) : (fetched k x s).rlutOut = x := rfl
@[simp] theorem fetched_alphaOut (k : Nat) (x : CharClass) (s : State) : (fetched k x s).alphaOut = s.alphaOut := rfl
@[simp] theorem fetched_request (k : Nat) (x : CharClass) (s : State) : (fetched k x s).request = s.request := rfl
@[simp] theorem fetched_script (k : Nat) (x : CharClass) (s : State) : (fetched k x s).script = s.script := rfl
@[simp] theorem fetched_freeIx (k : Nat) (x : CharClass) (s : State) : (fetched k x s).freeIx = s.freeIx := rfl
@[simp] theorem fetched_dec (k : Nat) (x : CharClass) (s : State) : (fetched k x s).dec =
    { s.dec with k := BitVec.ofNat 2 (k + 1), cpad := if k = 2 then isPad x else s.dec.cpad } := rfl
@[simp] theorem fetched_addr (k : Nat) (x : CharClass) (s : State) (p j : Nat) : (fetched k x s).addr p j = s.addr p j := rfl

@[simp] theorem shift_plat (v : Sextet) (s : State) : (shift v s).plat = s.plat := rfl
@[simp] theorem shift_enc (v : Sextet) (s : State) : (shift v s).enc = s.enc := rfl
@[simp] theorem shift_io (v : Sextet) (s : State) : (shift v s).io = s.io := rfl
@[simp] theorem shift_mem (v : Sextet) (s : State) : (shift v s).mem = s.mem := rfl
@[simp] theorem shift_rlutOut (v : Sextet) (s : State) : (shift v s).rlutOut = s.rlutOut := rfl
@[simp] theorem shift_alphaOut (v : Sextet) (s : State) : (shift v s).alphaOut = s.alphaOut := rfl
@[simp] theorem shift_request (v : Sextet) (s : State) : (shift v s).request = s.request := rfl
@[simp] theorem shift_script (v : Sextet) (s : State) : (shift v s).script = s.script := rfl
@[simp] theorem shift_freeIx (v : Sextet) (s : State) : (shift v s).freeIx = s.freeIx := rfl
@[simp] theorem shift_dec (v : Sextet) (s : State) : (shift v s).dec = { s.dec with sh := shiftIn s.dec.sh v } := rfl
@[simp] theorem shift_addr (v : Sextet) (s : State) (p j : Nat) : (shift v s).addr p j = s.addr p j := rfl

@[simp] theorem dstAdvanced_plat (s : State) : (dstAdvanced s).plat = s.plat := rfl
@[simp] theorem dstAdvanced_enc (s : State) : (dstAdvanced s).enc = s.enc := rfl
@[simp] theorem dstAdvanced_io (s : State) : (dstAdvanced s).io = s.io := rfl
@[simp] theorem dstAdvanced_mem (s : State) : (dstAdvanced s).mem = s.mem := rfl
@[simp] theorem dstAdvanced_rlutOut (s : State) : (dstAdvanced s).rlutOut = s.rlutOut := rfl
@[simp] theorem dstAdvanced_alphaOut (s : State) : (dstAdvanced s).alphaOut = s.alphaOut := rfl
@[simp] theorem dstAdvanced_request (s : State) : (dstAdvanced s).request = s.request := rfl
@[simp] theorem dstAdvanced_script (s : State) : (dstAdvanced s).script = s.script := rfl
@[simp] theorem dstAdvanced_freeIx (s : State) : (dstAdvanced s).freeIx = s.freeIx := rfl
@[simp] theorem dstAdvanced_dec (s : State) : (dstAdvanced s).dec = { s.dec with dst := s.addr s.dec.dst 1 } := rfl
@[simp] theorem dstAdvanced_addr (s : State) (p j : Nat) : (dstAdvanced s).addr p j = s.addr p j := rfl

@[simp] theorem withMem_addr (s : State) (m : Memory) (p j : Nat) : (s.withMem m).addr p j = s.addr p j := rfl
@[simp] theorem withAlphaOut_addr (s : State) (b : Byte) (p j : Nat) : (s.withAlphaOut b).addr p j = s.addr p j := rfl
@[simp] theorem withEnc_addr (s : State) (u : EncUnit) (p j : Nat) : (s.withEnc u).addr p j = s.addr p j := rfl
@[simp] theorem withDec_addr (s : State) (u : DecUnit) (p j : Nat) : (s.withDec u).addr p j = s.addr p j := rfl
@[simp] theorem setGroup_addr (s : State) (g : Group) (p j : Nat) : (setGroup s g).addr p j = s.addr p j := rfl

@[simp] theorem finishOk_dec (s : State) : (finishOk s).dec = s.dec.finishOk := rfl
@[simp] theorem finishOk_mem (s : State) : (finishOk s).mem = s.mem := rfl
@[simp] theorem raiseMalformed_dec (s : State) : (raiseMalformed s).dec = s.dec.malformed := rfl
@[simp] theorem raiseMalformed_mem (s : State) : (raiseMalformed s).mem = s.mem := rfl

end Sys2Proof.Machine
end

