-- ==== Sys2Proof/Laws/Contract.lean ====
section
/-!
SUPPORT. What the premise of a command says, and what accepting one can do, said once (20_memory.md R31, R35, R44; 70_reset_and_hazards.md
R130; 40_encoder.md R71; 41_decoder.md R86).
-/

namespace Sys2Proof.Machine

/-! ## Views -/

/-- The two runs have no address in common. -/
theorem Span.meets_false {v w : Span} :
    v.meets w = false ↔ ∀ a, ¬((v.lo ≤ a ∧ a < v.lo + v.len) ∧ w.lo ≤ a ∧ a < w.lo + w.len) := by
  simp only [Span.meets, Bool.and_eq_false_iff, decide_eq_false_iff_not]
  constructor
  · rintro h a ⟨⟨h1, h2⟩, h3, h4⟩
    omega
  · intro h
    by_contra hc
    have := h (max v.lo w.lo)
    omega

/-- The two runs have an address in common. -/
theorem Span.meets_true {v w : Span} : v.meets w = true ↔ ∃ a, v.Holds a ∧ w.Holds a := by
  rw [← Bool.not_eq_false, Span.meets_false]
  simp only [not_forall, not_not, Span.Holds]

theorem Views.conflict_true {v w : Views} :
    v.conflict w = true ↔
      ∃ a, (v.dst.Holds a ∧ (w.dst.Holds a ∨ w.src.Holds a)) ∨ (v.src.Holds a ∧ w.dst.Holds a) := by
  simp only [Views.conflict, Bool.or_eq_true, Span.meets_true]
  constructor
  · rintro ((⟨a, h, h'⟩ | ⟨a, h, h'⟩) | ⟨a, h, h'⟩)
    · exact ⟨a, .inl ⟨h, .inl h'⟩⟩
    · exact ⟨a, .inl ⟨h, .inr h'⟩⟩
    · exact ⟨a, .inr ⟨h, h'⟩⟩
  · rintro ⟨a, ⟨h, h' | h'⟩ | ⟨h, h'⟩⟩
    · exact .inl (.inl ⟨a, h, h'⟩)
    · exact .inl (.inr ⟨a, h, h'⟩)
    · exact .inr ⟨a, h, h'⟩

theorem Span.fits_iff {aw : Nat} {v : Span} : v.fits aw = true ↔ v.lo + v.len ≤ 2 ^ aw := by
  simp [Span.fits]

/-! ## The premise -/

theorem checkUnits_ok {s t : State} {v : Views} {other : Option Views} :
    checkUnits s v other = .ok t ↔ t = s ∧ other.any (fun w => v.conflict w) = false := by
  unfold checkUnits
  split
  · next h => exact ⟨fun ht => absurd ht (refuse_ne_ok _ _), fun ht => absurd (h.symm.trans ht.2) (by decide)⟩
  · next h =>
    rw [Bool.not_eq_true] at h
    exact ⟨fun ht => by cases ht; exact ⟨rfl, h⟩, fun ht => by rw [ht.1]⟩

theorem checkViews_ok {s t : State} {v : Views} {other : Option Views} :
    checkViews s v other = .ok t ↔ t = s ∧ v.Allowed s other := by
  unfold checkViews Views.Allowed
  split
  · next h =>
    refine ⟨fun ht => absurd ht (refuse_ne_ok _ _), fun ht => ?_⟩
    rw [ht.2.1, ht.2.2.1] at h
    exact absurd h (by decide)
  · next h =>
    rw [Bool.not_eq_true', Bool.not_eq_false, Bool.and_eq_true] at h
    split
    · next hm => exact ⟨fun ht => absurd ht (refuse_ne_ok _ _), fun ht => absurd (hm.symm.trans ht.2.2.2.1) (by decide)⟩
    · next hm =>
      rw [Bool.not_eq_true] at hm
      rw [checkUnits_ok]
      exact ⟨fun ht => ⟨ht.1, h.1, h.2, hm, ht.2⟩, fun ht => ⟨ht.1, ht.2.2.2.2⟩⟩

/-- The premise checks and changes nothing. -/
theorem checkViews_pass {s : State} {v : Views} {other : Option Views} (h : v.Allowed s other) : checkViews s v other = .ok s :=
  checkViews_ok.2 ⟨rfl, h⟩

/-- A command outside the premise is refused. -/
theorem checkViews_cases (s : State) (v : Views) (other : Option Views) :
    checkViews s v other = .ok s ∨ ∃ r, checkViews s v other = refuse r := by
  unfold checkViews checkUnits
  repeat' split
  · exact .inr ⟨_, rfl⟩
  · exact .inr ⟨_, rfl⟩
  · exact .inr ⟨_, rfl⟩
  · exact .inl rfl

/-! ## The string -/

theorem addA_addA (aw p j k : Nat) : addA aw (addA aw p j) k = addA aw p (j + k) := by
  simp [addA, Nat.add_assoc]

/-- What `countToNul` counts: no terminator before, a terminator there. -/
theorem countToNul_some {m : Memory} {aw fuel a n : Nat} :
    countToNul m aw fuel (addA aw a 0) = some n ↔
      n < fuel ∧ m.get (addA aw a n) = NUL ∧ ∀ k < n, m.get (addA aw a k) ≠ NUL := by
  induction fuel generalizing a n with
  | zero => simp [countToNul]
  | succ f ih =>
    have next : ∀ k, addA aw (a + 1) k = addA aw a (k + 1) := fun k => by simp [addA, Nat.add_assoc, Nat.add_comm 1 k]
    unfold countToNul
    rw [addA_addA, Nat.zero_add, ← next 0]
    split
    · next h =>
      constructor
      · intro hn
        cases hn
        exact ⟨Nat.succ_pos f, h, fun k hk => absurd hk (Nat.not_lt_zero k)⟩
      · rintro ⟨-, -, hk⟩
        cases n with
        | zero => rfl
        | succ n => exact absurd h (hk 0 (Nat.succ_pos n))
    · next h =>
      rw [Option.map_eq_some_iff]
      constructor
      · rintro ⟨k, hk, rfl⟩
        obtain ⟨h1, h2, h3⟩ := ih.1 hk
        refine ⟨by omega, by rw [← next]; exact h2, fun j hj => ?_⟩
        cases j with
        | zero => exact h
        | succ j => rw [← next]; exact h3 j (by omega)
      · rintro ⟨h1, h2, h3⟩
        cases n with
        | zero => exact absurd h2 h
        | succ n =>
          refine ⟨n, ih.2 ⟨by omega, by rw [next]; exact h2, fun j hj => ?_⟩, rfl⟩
          rw [next]
          exact h3 (j + 1) (by omega)

theorem countToNul_none {m : Memory} {aw fuel a : Nat} :
    countToNul m aw fuel (addA aw a 0) = none ↔ ∀ k < fuel, m.get (addA aw a k) ≠ NUL := by
  induction fuel generalizing a with
  | zero => simp [countToNul]
  | succ f ih =>
    have next : ∀ k, addA aw (a + 1) k = addA aw a (k + 1) := fun k => by simp [addA, Nat.add_assoc, Nat.add_comm 1 k]
    unfold countToNul
    rw [addA_addA, Nat.zero_add, ← next 0]
    split
    · next h => exact ⟨(fun hn => nomatch hn), fun hn => absurd h (hn 0 (Nat.succ_pos f))⟩
    · next h =>
      rw [Option.map_eq_none_iff, ih]
      constructor
      · intro hk k hlt
        cases k with
        | zero => exact h
        | succ k => rw [← next]; exact hk k (by omega)
      · intro hk k hlt
        rw [next]
        exact hk (k + 1) (by omega)

/-- The string at `a` has `n` characters: `n` bytes that are no terminator, then one that is, address arithmetic wrapping (R31, R35). -/
theorem strLen_some {s : State} {a n : Nat} :
    strLen s a = some n ↔ n < 2 ^ s.plat.aw ∧ s.mem.get (s.addr a n) = NUL ∧ ∀ k < n, s.mem.get (s.addr a k) ≠ NUL :=
  countToNul_some

/-- There is no string at `a`: no address of the space holds a terminator. -/
theorem strLen_none {s : State} {a : Nat} : strLen s a = none ↔ ∀ b, b < 2 ^ s.plat.aw → s.mem.get b ≠ NUL := by
  refine countToNul_none.trans ⟨fun h b hb => ?_, fun h k _ => h _ (addA_lt _ _ _)⟩
  have hp := Nat.two_pow_pos s.plat.aw
  have hm := Nat.mod_lt a hp
  generalize he : 2 ^ s.plat.aw = N at *
  have key : addA s.plat.aw a ((b + (N - a % N)) % N) = b := by
    unfold addA
    rw [he, Nat.add_mod_mod, show a + (b + (N - a % N)) = b + (a + (N - a % N)) by omega]
    have h1 : (a + (N - a % N)) % N = 0 := by
      have := Nat.div_add_mod a N
      rw [show a + (N - a % N) = N * (a / N + 1) by rw [Nat.mul_add, Nat.mul_one]; omega]
      exact Nat.mul_mod_right _ _
    rw [Nat.add_mod, h1, Nat.add_zero, Nat.mod_mod, Nat.mod_eq_of_lt hb]
  have := h ((b + (N - a % N)) % N) (Nat.mod_lt _ hp)
  rwa [key] at this

/-! ## Accepting a command -/

theorem encAccept_ok {s t : State} :
    encAccept s = .ok t ↔ (encCommandViews s).Allowed s (decRunning s) ∧ t = encLatch s := by
  unfold encAccept
  rw [bind_ok]
  constructor
  · rintro ⟨u, hu, ht⟩
    obtain ⟨rfl, h⟩ := checkViews_ok.1 hu
    cases ht
    exact ⟨h, rfl⟩
  · rintro ⟨h, rfl⟩
    exact ⟨s, checkViews_pass h, rfl⟩

theorem decCommandViews_some {s : State} {n : Nat} (h : strLen s s.io.decSrc = some n) :
    decCommandViews s = decViews s.io.decDest s.io.decSrc n := by
  unfold decCommandViews
  rw [h]

theorem decCommandViews_none {s : State} (h : strLen s s.io.decSrc = none) : decCommandViews s = everything s.plat.aw := by
  unfold decCommandViews
  rw [h]

theorem decAccept_some {s t : State} {n : Nat} (h : strLen s s.io.decSrc = some n) :
    decAccept s = .ok t ↔ (decViews s.io.decDest s.io.decSrc n).Allowed s (encRunning s) ∧ t = decLatch s := by
  unfold decAccept
  rw [decCommandViews_some h, h]
  simp only [bind_ok, checkViews_ok]
  constructor
  · rintro ⟨u, ⟨rfl, hu⟩, ht⟩
    cases ht
    exact ⟨hu, rfl⟩
  · rintro ⟨hu, rfl⟩
    exact ⟨s, ⟨rfl, hu⟩, rfl⟩

theorem decAccept_none {s t : State} (h : strLen s s.io.decSrc = none) :
    decAccept s = .ok t ↔
      (encRunning s).any (fun w => (everything s.plat.aw).conflict w) = false ∧ t = decLatch s := by
  unfold decAccept
  rw [decCommandViews_none h, h]
  simp only [bind_ok, checkUnits_ok]
  constructor
  · rintro ⟨u, ⟨rfl, hu⟩, ht⟩
    cases ht
    exact ⟨hu, rfl⟩
  · rintro ⟨hu, rfl⟩
    exact ⟨s, ⟨rfl, hu⟩, rfl⟩

/-- A command that is accepted is latched, and nothing else happens. -/
theorem decAccept_ok {s t : State} (h : decAccept s = .ok t) : t = decLatch s := by
  cases hn : strLen s s.io.decSrc with
  | none => exact ((decAccept_none hn).1 h).2
  | some n => exact ((decAccept_some hn).1 h).2

end Sys2Proof.Machine
end

