-- ==== Sys2Proof/Laws/Decoder.lean ====
section
/-!
SUPPORT. What each body of the decoder can do, said once (41_decoder.md R87 to R99): which classes it answers for, and with what state.
-/

namespace Sys2Proof.Machine

/-- Character `k` of the group, as the memory of `s` holds it. -/
def charAt (s : State) (k : Nat) : CharClass :=
  classify (s.mem.get (s.addr s.dec.src k))

/-- The memory admits the fetch of character `k`. -/
def CharAdmitted (s : State) (k : Nat) : Prop :=
  s.plat.admits (s.addr s.dec.src k) = true

theorem fetch_eq {k : Nat} {s : State} (h : CharAdmitted s k) : fetch k s = .ok (fetched k (charAt s k) s) :=
  fetch_admitted h

theorem fetchData_ok {k : Nat} {s t : State} :
    fetchData k s = .ok t ↔ CharAdmitted s k ∧ ∃ v, charAt s k = .data v ∧ t = shift v (fetched k (.data v) s) := by
  unfold fetchData
  rw [bind_ok]
  constructor
  · rintro ⟨u, h, ht⟩
    obtain ⟨ha, rfl⟩ := fetch_ok.1 h
    simp only [fetched_rlutOut] at ht
    refine ⟨ha, ?_⟩
    unfold charAt
    split at ht
    · next v hv =>
      rw [hv] at ht
      cases ht
      exact ⟨v, hv, rfl⟩
    · exact absurd ht (refuse_ne_ok _ _)
    · exact absurd ht (refuse_ne_ok _ _)
  · rintro ⟨ha, v, hv, rfl⟩
    exact ⟨_, fetch_eq ha, by rw [hv]; rfl⟩

theorem fetchThat_ok {k : Nat} {p : CharClass → Bool} {s t : State} :
    fetchThat k p s = .ok t ↔ CharAdmitted s k ∧ p (charAt s k) = true ∧ t = fetched k (charAt s k) s := by
  unfold fetchThat
  rw [bind_ok]
  constructor
  · rintro ⟨u, h, ht⟩
    obtain ⟨ha, rfl⟩ := fetch_ok.1 h
    change (if p (charAt s k) = true then _ else _) = _ at ht
    by_cases hp : p (charAt s k) = true
    · rw [if_pos hp] at ht
      cases ht
      exact ⟨ha, hp, rfl⟩
    · rw [if_neg hp] at ht
      exact absurd ht (refuse_ne_ok _ _)
  · rintro ⟨ha, hp, rfl⟩
    exact ⟨_, fetch_eq ha, by simp [hp]⟩

theorem fetchData_refused {k : Nat} {s : State} (ha : CharAdmitted s k) (h : isData (charAt s k) = false) :
    fetchData k s = refuse .notSelected := by
  unfold fetchData
  rw [fetch_eq ha, ok_bind]
  cases hx : charAt s k with
  | data v => rw [hx] at h; exact absurd h (by simp [isData])
  | pad => rfl
  | notB64 => rfl

theorem fetchThat_refused {k : Nat} {p : CharClass → Bool} {s : State} (ha : CharAdmitted s k) (h : p (charAt s k) = false) :
    fetchThat k p s = refuse .notSelected := by
  unfold fetchThat
  rw [fetch_eq ha, ok_bind]
  simp [h]

/-- The state after two data characters and byte 1. -/
def twoDone (s : State) (va vb : Sextet) : State :=
  { s with
    dec := { s.dec with
      k := 2#2, sh := shiftIn (shiftIn s.dec.sh va) vb, dst := s.addr s.dec.dst 1 }
    mem := s.mem.set s.dec.dst (byte1 (shiftIn (shiftIn s.dec.sh va) vb))
    rlutOut := .data vb }

@[simp] theorem twoDone_plat (s : State) (va vb : Sextet) : (twoDone s va vb).plat = s.plat := rfl
@[simp] theorem twoDone_enc (s : State) (va vb : Sextet) : (twoDone s va vb).enc = s.enc := rfl
@[simp] theorem twoDone_io (s : State) (va vb : Sextet) : (twoDone s va vb).io = s.io := rfl
@[simp] theorem twoDone_alphaOut (s : State) (va vb : Sextet) : (twoDone s va vb).alphaOut = s.alphaOut := rfl
@[simp] theorem twoDone_request (s : State) (va vb : Sextet) : (twoDone s va vb).request = s.request := rfl
@[simp] theorem twoDone_script (s : State) (va vb : Sextet) : (twoDone s va vb).script = s.script := rfl
@[simp] theorem twoDone_freeIx (s : State) (va vb : Sextet) : (twoDone s va vb).freeIx = s.freeIx := rfl
@[simp] theorem twoDone_rlutOut (s : State) (va vb : Sextet) : (twoDone s va vb).rlutOut = .data vb := rfl
@[simp] theorem twoDone_mem (s : State) (va vb : Sextet) :
    (twoDone s va vb).mem = s.mem.set s.dec.dst (byte1 (shiftIn (shiftIn s.dec.sh va) vb)) := rfl
@[simp] theorem twoDone_dec (s : State) (va vb : Sextet) : (twoDone s va vb).dec =
    { s.dec with k := 2#2, sh := shiftIn (shiftIn s.dec.sh va) vb, dst := s.addr s.dec.dst 1 } := rfl
@[simp] theorem twoDone_addr (s : State) (va vb : Sextet) (p j : Nat) : (twoDone s va vb).addr p j = s.addr p j := rfl

/-- The group begins with the two data characters, and byte 1 has memory to go to. -/
def BeginsWith (s : State) (va vb : Sextet) : Prop :=
  CharAdmitted s 0 ∧ charAt s 0 = .data va ∧ CharAdmitted s 1 ∧ charAt s 1 = .data vb ∧ s.plat.admits s.dec.dst = true

theorem decTwo_ok {s t : State} : decTwo s = .ok t ↔ ∃ va vb, BeginsWith s va vb ∧ t = twoDone s va vb := by
  unfold decTwo emit1
  simp only [bind_ok, fetchData_ok, emit_ok]
  constructor
  · rintro ⟨s1, ⟨h0, va, hva, rfl⟩, s2, ⟨h1, vb, hvb, rfl⟩, hd, rfl⟩
    exact ⟨va, vb, ⟨h0, hva, h1, hvb, hd⟩, rfl⟩
  · rintro ⟨va, vb, ⟨h0, hva, h1, hvb, hd⟩, rfl⟩
    exact ⟨_, ⟨h0, va, hva, rfl⟩, _, ⟨h1, vb, hvb, rfl⟩, hd, rfl⟩

theorem decTwo_begins {s : State} {va vb : Sextet} (h : BeginsWith s va vb) : decTwo s = .ok (twoDone s va vb) :=
  decTwo_ok.2 ⟨va, vb, h, rfl⟩

theorem decThree_ok {s t : State} :
    decThree s = .ok t ↔ ∃ va vb vc, BeginsWith s va vb ∧ CharAdmitted (twoDone s va vb) 2 ∧
      charAt (twoDone s va vb) 2 = .data vc ∧ t = shift vc (fetched 2 (.data vc) (twoDone s va vb)) := by
  unfold decThree
  simp only [bind_ok, fetchData_ok, decTwo_ok]
  constructor
  · rintro ⟨_, ⟨va, vb, h, rfl⟩, hc, vc, hvc, rfl⟩
    exact ⟨va, vb, vc, h, hc, hvc, rfl⟩
  · rintro ⟨va, vb, vc, h, hc, hvc, rfl⟩
    exact ⟨_, ⟨va, vb, h, rfl⟩, hc, vc, hvc, rfl⟩

theorem decTwoPad_ok {s t : State} :
    decTwoPad s = .ok t ↔ ∃ va vb, BeginsWith s va vb ∧ CharAdmitted (twoDone s va vb) 2 ∧
      charAt (twoDone s va vb) 2 = .pad ∧ t = fetched 2 .pad (twoDone s va vb) := by
  unfold decTwoPad
  simp only [bind_ok, fetchThat_ok, decTwo_ok]
  constructor
  · rintro ⟨_, ⟨va, vb, h, rfl⟩, hc, hp, rfl⟩
    have hp' : charAt (twoDone s va vb) 2 = .pad := by
      cases hx : charAt (twoDone s va vb) 2 with
      | data v => rw [hx] at hp; exact absurd hp (by simp [isPad])
      | pad => rfl
      | notB64 => rw [hx] at hp; exact absurd hp (by simp [isPad])
    exact ⟨va, vb, h, hc, hp', by rw [hp']⟩
  · rintro ⟨va, vb, h, hc, hp, rfl⟩
    exact ⟨_, ⟨va, vb, h, rfl⟩, hc, by rw [hp]; rfl, by rw [hp]⟩

/-- A group action runs only while the decoder is busy, between two groups (30_encoding.md R63). -/
theorem whenDecBusy_ok {s t : State} {body : State → Res State} :
    whenDecBusy s body = .ok t ↔ s.dec.busy = true ∧ s.dec.phase = .read1 ∧ body s = .ok t := by
  unfold whenDecBusy
  split
  · next h =>
    rw [Bool.and_eq_true, beq_iff_eq] at h
    exact ⟨fun ht => ⟨h.1, h.2, ht⟩, fun ht => ht.2.2⟩
  · next h =>
    rw [Bool.and_eq_true, beq_iff_eq] at h
    exact ⟨fun ht => absurd ht (refuse_ne_ok _ _), fun ht => absurd ⟨ht.1, ht.2.1⟩ h⟩

theorem whenDecBusy_busy {s : State} (body : State → Res State) (h : s.dec.busy = true) (hp : s.dec.phase = .read1) :
    whenDecBusy s body = body s := by
  simp [whenDecBusy, h, hp]

theorem decByte3_ok {s t : State} :
    decByte3 s = .ok t ↔ s.plat.admits s.dec.dst = true ∧
      t = { s with
        dec := { s.dec with src := s.addr s.dec.src 4, dst := s.addr s.dec.dst 1 }
        mem := s.mem.set s.dec.dst (byte3 s.dec.sh) } := by
  unfold decByte3
  simp only [bind_ok, emit_ok]
  constructor
  · rintro ⟨_, ⟨h, rfl⟩, ht⟩
    cases ht
    exact ⟨h, rfl⟩
  · rintro ⟨h, rfl⟩
    exact ⟨_, ⟨h, rfl⟩, rfl⟩

theorem emit2_ok {s t : State} :
    emit2 s = .ok t ↔ s.plat.admits s.dec.dst = true ∧
      t = dstAdvanced (s.withMem (s.mem.set s.dec.dst (byte2 s.dec.sh))) :=
  emit_ok

theorem emit1_ok {s t : State} :
    emit1 s = .ok t ↔ s.plat.admits s.dec.dst = true ∧
      t = dstAdvanced (s.withMem (s.mem.set s.dec.dst (byte1 s.dec.sh))) :=
  emit_ok

/-! ## The nine group actions -/

/-- The state after three data characters and byte 1. -/
def threeDone (s : State) (va vb vc : Sextet) : State :=
  shift vc (fetched 2 (.data vc) (twoDone s va vb))

/-- The group begins with three data characters. -/
def BeginsWithThree (s : State) (va vb vc : Sextet) : Prop :=
  BeginsWith s va vb ∧ CharAdmitted (twoDone s va vb) 2 ∧ charAt (twoDone s va vb) 2 = .data vc

/-- The group begins with two data characters and `=`. -/
def BeginsWithTwoPad (s : State) (va vb : Sextet) : Prop :=
  BeginsWith s va vb ∧ CharAdmitted (twoDone s va vb) 2 ∧ charAt (twoDone s va vb) 2 = .pad

theorem isNotB64_iff {x : CharClass} : isNotB64 x = true ↔ x = .notB64 := by
  cases x <;> simp [isNotB64]

theorem isPad_iff {x : CharClass} : isPad x = true ↔ x = .pad := by
  cases x <;> simp [isPad]

theorem isData_iff {x : CharClass} : isData x = true ↔ ∃ v, x = .data v := by
  cases x <;> simp [isData]

theorem decThree_iff {s t : State} :
    decThree s = .ok t ↔ ∃ va vb vc, BeginsWithThree s va vb vc ∧ t = threeDone s va vb vc := by
  rw [decThree_ok]
  exact ⟨fun ⟨va, vb, vc, h, hc, hv, ht⟩ => ⟨va, vb, vc, ⟨h, hc, hv⟩, ht⟩,
    fun ⟨va, vb, vc, ⟨h, hc, hv⟩, ht⟩ => ⟨va, vb, vc, h, hc, hv, ht⟩⟩

theorem decTwoPad_iff {s t : State} :
    decTwoPad s = .ok t ↔ ∃ va vb, BeginsWithTwoPad s va vb ∧ t = fetched 2 .pad (twoDone s va vb) := by
  rw [decTwoPad_ok]
  exact ⟨fun ⟨va, vb, h, hc, hv, ht⟩ => ⟨va, vb, ⟨h, hc, hv⟩, ht⟩, fun ⟨va, vb, ⟨h, hc, hv⟩, ht⟩ => ⟨va, vb, h, hc, hv, ht⟩⟩

theorem decEnd0_ok {s t : State} :
    decEnd0 s = .ok t ↔
      CharAdmitted s 0 ∧ isData (charAt s 0) = false ∧ t = finishOk (fetched 0 (charAt s 0) s) := by
  unfold decEnd0
  simp only [bind_ok, fetchThat_ok, Bool.not_eq_true']
  constructor
  · rintro ⟨_, ⟨h, hd, rfl⟩, ht⟩
    cases ht
    exact ⟨h, hd, rfl⟩
  · rintro ⟨h, hd, rfl⟩
    exact ⟨_, ⟨h, hd, rfl⟩, rfl⟩

theorem decFailB_ok {s t : State} :
    decFailB s = .ok t ↔ ∃ va, CharAdmitted s 0 ∧ charAt s 0 = .data va ∧ CharAdmitted s 1 ∧ isData (charAt s 1) = false ∧
      t = raiseMalformed (fetched 1 (charAt s 1) (shift va (fetched 0 (.data va) s))) := by
  unfold decFailB
  simp only [bind_ok, fetchThat_ok, fetchData_ok, Bool.not_eq_true']
  constructor
  · rintro ⟨_, ⟨h, va, hv, rfl⟩, _, ⟨h', hd, rfl⟩, ht⟩
    cases ht
    exact ⟨va, h, hv, h', hd, rfl⟩
  · rintro ⟨va, h, hv, h', hd, rfl⟩
    exact ⟨_, ⟨h, va, hv, rfl⟩, _, ⟨h', hd, rfl⟩, rfl⟩

theorem decFailC_ok {s t : State} :
    decFailC s = .ok t ↔ ∃ va vb, BeginsWith s va vb ∧ CharAdmitted (twoDone s va vb) 2 ∧
      charAt (twoDone s va vb) 2 = .notB64 ∧ t = raiseMalformed (fetched 2 .notB64 (twoDone s va vb)) := by
  unfold decFailC
  simp only [bind_ok, fetchThat_ok, decTwo_ok, isNotB64_iff]
  constructor
  · rintro ⟨_, ⟨va, vb, h, rfl⟩, _, ⟨hc, hn, rfl⟩, ht⟩
    cases ht
    exact ⟨va, vb, h, hc, hn, by rw [hn]⟩
  · rintro ⟨va, vb, h, hc, hn, rfl⟩
    exact ⟨_, ⟨va, vb, h, rfl⟩, _, ⟨hc, hn, rfl⟩, by rw [hn]⟩

theorem decFailD_ok {s t : State} :
    decFailD s = .ok t ↔ ∃ va vb vc, BeginsWithThree s va vb vc ∧ CharAdmitted (threeDone s va vb vc) 3 ∧
      charAt (threeDone s va vb vc) 3 = .notB64 ∧ t = raiseMalformed (fetched 3 .notB64 (threeDone s va vb vc)) := by
  unfold decFailD
  simp only [bind_ok, fetchThat_ok, decThree_iff, isNotB64_iff]
  constructor
  · rintro ⟨_, ⟨va, vb, vc, h, rfl⟩, _, ⟨hc, hn, rfl⟩, ht⟩
    cases ht
    exact ⟨va, vb, vc, h, hc, hn, by rw [hn]⟩
  · rintro ⟨va, vb, vc, h, hc, hn, rfl⟩
    exact ⟨_, ⟨va, vb, vc, h, rfl⟩, _, ⟨hc, hn, rfl⟩, by rw [hn]⟩

/-- What an action that begins with two data characters and `=` answers, its fourth character tested by `p`. -/
theorem afterTwoPad_ok {s t : State} {p : CharClass → Bool} {f : State → State} :
    (do
      let s ← decTwoPad s
      let s ← fetchThat 3 p s
      .ok (f s) : Res State) = .ok t ↔
      ∃ va vb, BeginsWithTwoPad s va vb ∧ CharAdmitted (fetched 2 .pad (twoDone s va vb)) 3 ∧
        p (charAt (fetched 2 .pad (twoDone s va vb)) 3) = true ∧
        t = f (fetched 3 (charAt (fetched 2 .pad (twoDone s va vb)) 3) (fetched 2 .pad (twoDone s va vb))) := by
  simp only [bind_ok, fetchThat_ok, decTwoPad_iff]
  constructor
  · rintro ⟨_, ⟨va, vb, h, rfl⟩, _, ⟨hc, hn, rfl⟩, ht⟩
    cases ht
    exact ⟨va, vb, h, hc, hn, rfl⟩
  · rintro ⟨va, vb, h, hc, hn, rfl⟩
    exact ⟨_, ⟨va, vb, h, rfl⟩, _, ⟨hc, hn, rfl⟩, rfl⟩

theorem decFailDP_ok {s t : State} :
    decFailDP s = .ok t ↔ ∃ va vb, BeginsWithTwoPad s va vb ∧ CharAdmitted (fetched 2 .pad (twoDone s va vb)) 3 ∧
      isNotB64 (charAt (fetched 2 .pad (twoDone s va vb)) 3) = true ∧
      t = raiseMalformed (fetched 3 (charAt (fetched 2 .pad (twoDone s va vb)) 3) (fetched 2 .pad (twoDone s va vb))) :=
  afterTwoPad_ok

theorem decFailPD_ok {s t : State} :
    decFailPD s = .ok t ↔ ∃ va vb, BeginsWithTwoPad s va vb ∧ CharAdmitted (fetched 2 .pad (twoDone s va vb)) 3 ∧
      isData (charAt (fetched 2 .pad (twoDone s va vb)) 3) = true ∧
      t = raiseMalformed (fetched 3 (charAt (fetched 2 .pad (twoDone s va vb)) 3) (fetched 2 .pad (twoDone s va vb))) :=
  afterTwoPad_ok

theorem decEnd1_ok {s t : State} :
    decEnd1 s = .ok t ↔ ∃ va vb, BeginsWithTwoPad s va vb ∧ CharAdmitted (fetched 2 .pad (twoDone s va vb)) 3 ∧
      isPad (charAt (fetched 2 .pad (twoDone s va vb)) 3) = true ∧
      t = finishOk (fetched 3 (charAt (fetched 2 .pad (twoDone s va vb)) 3) (fetched 2 .pad (twoDone s va vb))) :=
  afterTwoPad_ok

/-- The state after byte 2. -/
def byte2Done (s : State) : State :=
  dstAdvanced (s.withMem (s.mem.set s.dec.dst (byte2 s.dec.sh)))

theorem emit2_iff {s t : State} : emit2 s = .ok t ↔ s.plat.admits s.dec.dst = true ∧ t = byte2Done s := emit2_ok

theorem decEnd2_ok {s t : State} :
    decEnd2 s = .ok t ↔ ∃ va vb vc, BeginsWithThree s va vb vc ∧ CharAdmitted (threeDone s va vb vc) 3 ∧
      charAt (threeDone s va vb vc) 3 = .pad ∧ s.plat.admits (s.addr s.dec.dst 1) = true ∧
      t = finishOk (byte2Done (fetched 3 .pad (threeDone s va vb vc))) := by
  unfold decEnd2
  simp only [bind_ok, fetchThat_ok, decThree_iff, isPad_iff, emit2_iff]
  constructor
  · rintro ⟨_, ⟨va, vb, vc, h, rfl⟩, _, ⟨hc, hn, rfl⟩, _, ⟨hd, rfl⟩, ht⟩
    cases ht
    exact ⟨va, vb, vc, h, hc, hn, hd, by rw [hn]⟩
  · rintro ⟨va, vb, vc, h, hc, hn, hd, rfl⟩
    exact ⟨_, ⟨va, vb, vc, h, rfl⟩, _, ⟨hc, hn, rfl⟩, _, ⟨hd, rfl⟩, by rw [hn]⟩

/-- The state after byte 3 and the advance to the next group. -/
def byte3Done (s : State) : State :=
  { s with
    dec := { s.dec with src := s.addr s.dec.src 4, dst := s.addr s.dec.dst 1 }
    mem := s.mem.set s.dec.dst (byte3 s.dec.sh) }

/-- Byte 2, the fourth sextet, byte 3. -/
theorem lastBytes_ok {vd : Sextet} {s t : State} :
    (do
      let s ← emit2 s
      decByte3 (shift vd s)) = .ok t ↔
      s.plat.admits s.dec.dst = true ∧ s.plat.admits (s.addr s.dec.dst 1) = true ∧ t = byte3Done (shift vd (byte2Done s)) := by
  simp only [bind_ok, emit2_iff, decByte3_ok]
  constructor
  · rintro ⟨_, ⟨h1, rfl⟩, h2, rfl⟩
    exact ⟨h1, h2, rfl⟩
  · rintro ⟨h1, h2, rfl⟩
    exact ⟨_, ⟨h1, rfl⟩, h2, rfl⟩

/-- What a full group does after its third character. -/
theorem fourthData_ok {s t : State} :
    (do
      let s ← fetch 3 s
      match s.rlutOut with
      | .data v => do
        let s ← emit2 s
        decByte3 (shift v s)
      | .pad => refuse .notSelected
      | .notB64 => refuse .notSelected : Res State) = .ok t ↔
      CharAdmitted s 3 ∧ ∃ vd, charAt s 3 = .data vd ∧ s.plat.admits s.dec.dst = true ∧
        s.plat.admits (s.addr s.dec.dst 1) = true ∧ t = byte3Done (shift vd (byte2Done (fetched 3 (.data vd) s))) := by
  constructor
  · intro h
    obtain ⟨u, hu, ht⟩ := bind_ok.1 h
    obtain ⟨hc, rfl⟩ := fetch_ok.1 hu
    refine ⟨hc, ?_⟩
    unfold charAt
    rw [fetched_rlutOut] at ht
    split at ht
    · next v hv =>
      rw [hv] at ht ⊢
      obtain ⟨h1, h2, ht⟩ := lastBytes_ok.1 ht
      exact ⟨v, rfl, h1, h2, ht⟩
    · exact absurd ht (refuse_ne_ok _ _)
    · exact absurd ht (refuse_ne_ok _ _)
  · rintro ⟨hc, vd, hv, h1, h2, rfl⟩
    refine bind_ok.2 ⟨_, fetch_eq hc, ?_⟩
    rw [hv]
    exact lastBytes_ok.2 ⟨h1, h2, rfl⟩

theorem decFull_ok {s t : State} :
    decFull s = .ok t ↔ ∃ va vb vc vd, BeginsWithThree s va vb vc ∧ CharAdmitted (threeDone s va vb vc) 3 ∧
      charAt (threeDone s va vb vc) 3 = .data vd ∧ s.plat.admits (s.addr s.dec.dst 1) = true ∧
      s.plat.admits (s.addr (s.addr s.dec.dst 1) 1) = true ∧
      t = byte3Done (shift vd (byte2Done (fetched 3 (.data vd) (threeDone s va vb vc)))) := by
  unfold decFull
  rw [bind_ok]
  constructor
  · rintro ⟨_, h3, ht⟩
    obtain ⟨va, vb, vc, h, rfl⟩ := decThree_iff.1 h3
    obtain ⟨hc, vd, hv, h1, h2, ht⟩ := fourthData_ok.1 ht
    exact ⟨va, vb, vc, vd, h, hc, hv, h1, h2, ht⟩
  · rintro ⟨va, vb, vc, vd, h, hc, hv, h1, h2, ht⟩
    exact ⟨_, decThree_iff.2 ⟨va, vb, vc, h, rfl⟩, fourthData_ok.2 ⟨hc, vd, hv, h1, h2, ht⟩⟩

end Sys2Proof.Machine
end

