-- ==== Sys2Proof/Laws/Encoder.lean ====
section
/-!
SUPPORT. What each body of the encoder can do, said once: it answers exactly when the memory admits its accesses, and then with the state
written out here (40_encoder.md R72 to R75).
-/

namespace Sys2Proof.Machine

/-- The memory after four writes at `E.dst` and the three addresses above it, in order. -/
def fourBytes (s : State) (c0 c1 c2 c3 : Byte) : Memory :=
  (((s.mem.set s.enc.dst c0).set (s.addr s.enc.dst 1) c1).set (s.addr s.enc.dst 2) c2).set (s.addr s.enc.dst 3) c3

/-- The memory admits the four addresses at `E.dst`. -/
def FourAdmitted (s : State) : Prop :=
  s.plat.admits s.enc.dst = true ∧ s.plat.admits (s.addr s.enc.dst 1) = true ∧
    s.plat.admits (s.addr s.enc.dst 2) = true ∧ s.plat.admits (s.addr s.enc.dst 3) = true

/-- The state after a group action that read `n` bytes, formed the group `g`, wrote four characters and left `r` bytes. -/
def groupDone (s : State) (g : Group) (m : Memory) (x : Byte) (n r : Nat) : State :=
  { s with
    enc := { s.enc with src := s.addr s.enc.src n, dst := s.addr s.enc.dst 4, rem := r, g := g }
    mem := m
    alphaOut := x }

/-- The three bytes at `E.src`, as the group. -/
def groupAtSrc (s : State) : Group :=
  joinBytes (s.mem.get s.enc.src) (s.mem.get (s.addr s.enc.src 1)) (s.mem.get (s.addr s.enc.src 2))

theorem encGroup_ok {s t : State} :
    encGroup s = .ok t ↔
      (s.plat.admits s.enc.src = true ∧ s.plat.admits (s.addr s.enc.src 1) = true ∧
        s.plat.admits (s.addr s.enc.src 2) = true) ∧ FourAdmitted s ∧
      t = groupDone s (groupAtSrc s)
        (fourBytes s (alphaAt (sextet0 (groupAtSrc s))) (alphaAt (sextet1 (groupAtSrc s)))
          (alphaAt (sextet2 (groupAtSrc s))) (alphaAt (sextet3 (groupAtSrc s))))
        (alphaAt (sextet3 (groupAtSrc s))) 3 (s.enc.rem - 3) := by
  unfold encGroup
  simp only [bind_ok, readByte_ok, writeSextet_ok]
  constructor
  · rintro ⟨a, ⟨ha, rfl⟩, b, ⟨hb, rfl⟩, c, ⟨hc, rfl⟩, s1, ⟨h0, rfl⟩, s2, ⟨h1, rfl⟩, s3, ⟨h2, rfl⟩, s4, ⟨h3, rfl⟩, ht⟩
    cases ht
    exact ⟨⟨ha, hb, hc⟩, ⟨h0, h1, h2, h3⟩, rfl⟩
  · rintro ⟨⟨ha, hb, hc⟩, ⟨h0, h1, h2, h3⟩, rfl⟩
    exact ⟨_, ⟨ha, rfl⟩, _, ⟨hb, rfl⟩, _, ⟨hc, rfl⟩, _, ⟨h0, rfl⟩, _, ⟨h1, rfl⟩, _, ⟨h2, rfl⟩, _, ⟨h3, rfl⟩, rfl⟩

/-- The two bytes at `E.src` and a zero, as the group. -/
def pairAtSrc (s : State) : Group :=
  joinBytes (s.mem.get s.enc.src) (s.mem.get (s.addr s.enc.src 1)) 0#8

theorem encTail2_ok {s t : State} :
    encTail2 s = .ok t ↔
      (s.plat.admits s.enc.src = true ∧ s.plat.admits (s.addr s.enc.src 1) = true) ∧ FourAdmitted s ∧
      t = groupDone s (pairAtSrc s)
        (fourBytes s (alphaAt (sextet0 (pairAtSrc s))) (alphaAt (sextet1 (pairAtSrc s))) (alphaAt (sextet2 (pairAtSrc s))) PAD)
        (alphaAt (sextet2 (pairAtSrc s))) 2 0 := by
  unfold encTail2
  simp only [bind_ok, readByte_ok, writeSextet_ok, writeByte_ok]
  constructor
  · rintro ⟨a, ⟨ha, rfl⟩, b, ⟨hb, rfl⟩, s1, ⟨h0, rfl⟩, s2, ⟨h1, rfl⟩, s3, ⟨h2, rfl⟩, s4, ⟨h3, rfl⟩, ht⟩
    cases ht
    exact ⟨⟨ha, hb⟩, ⟨h0, h1, h2, h3⟩, rfl⟩
  · rintro ⟨⟨ha, hb⟩, ⟨h0, h1, h2, h3⟩, rfl⟩
    exact ⟨_, ⟨ha, rfl⟩, _, ⟨hb, rfl⟩, _, ⟨h0, rfl⟩, _, ⟨h1, rfl⟩, _, ⟨h2, rfl⟩, _, ⟨h3, rfl⟩, rfl⟩

/-- The byte at `E.src` and two zeros, as the group. -/
def byteAtSrc (s : State) : Group :=
  joinBytes (s.mem.get s.enc.src) 0#8 0#8

theorem encTail1_ok {s t : State} :
    encTail1 s = .ok t ↔
      s.plat.admits s.enc.src = true ∧ FourAdmitted s ∧
      t = groupDone s (byteAtSrc s)
        (fourBytes s (alphaAt (sextet0 (byteAtSrc s))) (alphaAt (sextet1 (byteAtSrc s))) PAD PAD)
        (alphaAt (sextet1 (byteAtSrc s))) 1 0 := by
  unfold encTail1
  simp only [bind_ok, readByte_ok, writeSextet_ok, writeByte_ok]
  constructor
  · rintro ⟨a, ⟨ha, rfl⟩, s1, ⟨h0, rfl⟩, s2, ⟨h1, rfl⟩, s3, ⟨h2, rfl⟩, s4, ⟨h3, rfl⟩, ht⟩
    cases ht
    exact ⟨ha, ⟨h0, h1, h2, h3⟩, rfl⟩
  · rintro ⟨ha, ⟨h0, h1, h2, h3⟩, rfl⟩
    exact ⟨_, ⟨ha, rfl⟩, _, ⟨h0, rfl⟩, _, ⟨h1, rfl⟩, _, ⟨h2, rfl⟩, _, ⟨h3, rfl⟩, rfl⟩

theorem encFinish_ok {s t : State} :
    encFinish s = .ok t ↔
      s.plat.admits s.enc.dst = true ∧ t = { s with enc := s.enc.complete, mem := s.mem.set s.enc.dst NUL } := by
  unfold encFinish
  simp only [bind_ok, writeByte_ok]
  constructor
  · rintro ⟨a, ⟨ha, rfl⟩, ht⟩
    cases ht
    exact ⟨ha, rfl⟩
  · rintro ⟨ha, rfl⟩
    exact ⟨_, ⟨ha, rfl⟩, rfl⟩

/-- A group action runs exactly where the selector selects it, between two groups (30_encoding.md R64). -/
theorem whenEncSelects_ok {m : Nat} {s t : State} {body : State → Res State} :
    whenEncSelects m s body = .ok t ↔ s.enc.busy = true ∧ s.enc.phase = .read1 ∧ encM s.enc = m ∧ body s = .ok t := by
  unfold whenEncSelects
  split
  · next h =>
    simp only [Bool.and_eq_true, beq_iff_eq] at h
    exact ⟨fun ht => ⟨h.1.1, h.1.2, h.2, ht⟩, fun ht => ht.2.2.2⟩
  · next h =>
    simp only [Bool.and_eq_true, beq_iff_eq] at h
    exact ⟨fun ht => absurd ht (refuse_ne_ok _ _), fun ht => absurd ⟨⟨ht.1, ht.2.1⟩, ht.2.2.1⟩ h⟩

/-- Where the selector selects it, a group action is its body. -/
theorem whenEncSelects_selected {m : Nat} {s : State} (body : State → Res State) (hb : s.enc.busy = true)
    (hp : s.enc.phase = .read1) (hm : encM s.enc = m) : whenEncSelects m s body = body s := by
  simp [whenEncSelects, hb, hp, hm]

/-- Where the selector names another action, a group action is not selected. -/
theorem whenEncSelects_other {m : Nat} {s : State} (body : State → Res State) (hm : encM s.enc ≠ m) :
    whenEncSelects m s body = refuse .notSelected := by
  simp [whenEncSelects, hm]

theorem fourBytes_other {s : State} {c0 c1 c2 c3 : Byte} {a : Nat} (h0 : a ≠ s.enc.dst) (h1 : a ≠ s.addr s.enc.dst 1)
    (h2 : a ≠ s.addr s.enc.dst 2) (h3 : a ≠ s.addr s.enc.dst 3) : (fourBytes s c0 c1 c2 c3).get a = s.mem.get a := by
  unfold fourBytes
  rw [Memory.get_set_other _ _ _ _ h3, Memory.get_set_other _ _ _ _ h2, Memory.get_set_other _ _ _ _ h1,
    Memory.get_set_other _ _ _ _ h0]

theorem fourBytes_wf {s : State} (c0 c1 c2 c3 : Byte) (h : s.mem.wf = true) : (fourBytes s c0 c1 c2 c3).wf = true :=
  Memory.wf_set _ _ (Memory.wf_set _ _ (Memory.wf_set _ _ (Memory.wf_set _ _ h)))

end Sys2Proof.Machine
end

