-- ==== Sys2Proof/Laws/Command.lean ====
section
/-!
SUPPORT. What the parts of the two whole operations can do, said once (40_encoder.md R70; 41_decoder.md R85).
-/

namespace Sys2Proof.Machine

/-! ## ENCODE -/

theorem encTail_ok {s t : State} :
    encTail s = .ok t ↔
      (s.enc.rem = 2 ∧ encTail2 s = .ok t) ∨ (s.enc.rem = 1 ∧ encTail1 s = .ok t) ∨
        (s.enc.rem ≠ 2 ∧ s.enc.rem ≠ 1 ∧ t = s) := by
  unfold encTail
  split
  · next h => simp [h]
  · next h =>
    split
    · next h' => simp [h']
    · next h' =>
      simp only [h, h', false_and, false_or, ne_eq, not_false_eq_true, true_and, Except.ok.injEq]
      exact eq_comm

/-- The loop of `ENCODE` runs one group at a time. -/
theorem encGroups_succ {n : Nat} {s t : State} :
    encGroups (n + 1) s = .ok t ↔ ∃ u, encGroup s = .ok u ∧ encGroups n u = .ok t :=
  bind_ok

/-- `ENCODE` completes exactly where it is ignored, or where the premise holds and the groups, the tail and the terminator complete. -/
theorem execEncode_ok {s t : State} :
    execEncode s = .next t ↔
      (s.enc.busy = true ∧ t = s) ∨
        (s.enc.busy = false ∧
          (encViews s.io.encDest s.io.encSrc s.io.encSize).Allowed s (decRunning s) ∧
          encodeWhole (encLatch s) = .ok t) := by
  unfold execEncode
  rw [answer_eq_next]
  split
  · next h => simp [h, eq_comm]
  · next h =>
    rw [Bool.not_eq_true] at h
    rw [bind_ok]
    constructor
    · rintro ⟨u, hu, ht⟩
      obtain ⟨ha, rfl⟩ := encAccept_ok.1 hu
      exact .inr ⟨h, ha, ht⟩
    · rintro (⟨hb, -⟩ | ⟨-, ha, ht⟩)
      · exact absurd (hb.symm.trans h) (by decide)
      · exact ⟨_, encAccept_ok.2 ⟨ha, rfl⟩, ht⟩

/-! ## DECODE -/

/-- One pass of `DECODE`'s loop is one of the nine group actions; only a full group goes on (R106). -/
inductive GroupPass (s t : State) : Bool → Prop where
  | end0 : decEnd0 s = .ok t → GroupPass s t false
  | failB : decFailB s = .ok t → GroupPass s t false
  | failC : decFailC s = .ok t → GroupPass s t false
  | failD : decFailD s = .ok t → GroupPass s t false
  | failDP : decFailDP s = .ok t → GroupPass s t false
  | failPD : decFailPD s = .ok t → GroupPass s t false
  | end1 : decEnd1 s = .ok t → GroupPass s t false
  | end2 : decEnd2 s = .ok t → GroupPass s t false
  | full : decFull s = .ok t → GroupPass s t true

/-- The part of a pass after two data characters. -/
def passAfterTwo (u : State) : Res (Bool × State) := do
  let s ← fetch 2 u
  match s.rlutOut with
  | .notB64 => .ok (false, raiseMalformed s)
  | .pad => do
    let s ← fetch 3 s
    .ok (false, if isPad s.rlutOut then finishOk s else raiseMalformed s)
  | .data vc => do
    let s ← fetch 3 (shift vc s)
    match s.rlutOut with
    | .notB64 => .ok (false, raiseMalformed s)
    | .pad => do
      let s ← emit2 s
      .ok (false, finishOk s)
    | .data vd => do
      let s ← emit2 s
      let s ← decByte3 (shift vd s)
      .ok (true, s)

theorem decodeGroup_begins {s : State} {va vb : Sextet} (h : BeginsWith s va vb) :
    decodeGroup s = passAfterTwo (twoDone s va vb) := by
  obtain ⟨a0, h0, a1, h1, ad⟩ := h
  unfold decodeGroup
  rw [fetch_eq a0, ok_bind]
  simp only [fetched_rlutOut, h0]
  have a1' : CharAdmitted (shift va (fetched 0 (.data va) s)) 1 := a1
  have h1' : charAt (shift va (fetched 0 (.data va) s)) 1 = .data vb := h1
  rw [fetch_eq a1', ok_bind]
  simp only [fetched_rlutOut, h1']
  have e : emit1 (shift vb (fetched 1 (.data vb) (shift va (fetched 0 (.data va) s)))) = .ok (twoDone s va vb) :=
    emit1_ok.2 ⟨ad, rfl⟩
  rw [e, ok_bind]
  rfl

theorem decodeGroup_first {s : State} (ha : CharAdmitted s 0) (h : isData (charAt s 0) = false) :
    decodeGroup s = .ok (false, finishOk (fetched 0 (charAt s 0) s)) := by
  unfold decodeGroup
  rw [fetch_eq ha, ok_bind]
  simp only [fetched_rlutOut]
  cases hx : charAt s 0 with
  | data v => rw [hx] at h; exact absurd h (by simp [isData])
  | pad => rfl
  | notB64 => rfl

theorem decodeGroup_second {s : State} {va : Sextet} (ha : CharAdmitted s 0) (h : charAt s 0 = .data va)
    (ha' : CharAdmitted s 1) (h' : isData (charAt s 1) = false) :
    decodeGroup s = .ok (false, raiseMalformed (fetched 1 (charAt s 1) (shift va (fetched 0 (.data va) s)))) := by
  unfold decodeGroup
  rw [fetch_eq ha, ok_bind]
  simp only [fetched_rlutOut, h]
  have a1' : CharAdmitted (shift va (fetched 0 (.data va) s)) 1 := ha'
  have h1' : charAt (shift va (fetched 0 (.data va) s)) 1 = charAt s 1 := rfl
  rw [fetch_eq a1', ok_bind]
  simp only [fetched_rlutOut, h1']
  cases hx : charAt s 1 with
  | data v => rw [hx] at h'; exact absurd h' (by simp [isData])
  | pad => rfl
  | notB64 => rfl

/-- A pass that answers has fetched its first character, and its second where the first is a data character. -/
theorem decodeGroup_start {s : State} {r : Bool × State} (h : decodeGroup s = .ok r) :
    CharAdmitted s 0 ∧ ∀ va, charAt s 0 = .data va →
      CharAdmitted s 1 ∧ ∀ vb, charAt s 1 = .data vb → BeginsWith s va vb := by
  unfold decodeGroup at h
  obtain ⟨_, h1, h2⟩ := bind_ok.1 h
  obtain ⟨a0, rfl⟩ := fetch_ok.1 h1
  refine ⟨a0, fun va hva => ?_⟩
  have hva' : classify (s.mem.get (s.addr s.dec.src 0)) = .data va := hva
  simp only [fetched_rlutOut, hva'] at h2
  obtain ⟨_, h3, h4⟩ := bind_ok.1 h2
  obtain ⟨a1, rfl⟩ := fetch_ok.1 h3
  refine ⟨a1, fun vb hvb => ⟨a0, hva, a1, hvb, ?_⟩⟩
  have hvb' : classify (s.mem.get (s.addr s.dec.src 1)) = .data vb := hvb
  simp only [fetched_rlutOut, fetched_mem, fetched_addr, fetched_dec, shift_mem, shift_addr, shift_dec, hvb'] at h4
  obtain ⟨_, h5, -⟩ := bind_ok.1 h4
  exact (emit1_ok.1 h5).1

theorem passAfterTwo_ok {s t : State} {va vb : Sextet} {b : Bool} (h : BeginsWith s va vb)
    (ht : passAfterTwo (twoDone s va vb) = .ok (b, t)) : GroupPass s t b := by
  unfold passAfterTwo at ht
  obtain ⟨_, h1, h2⟩ := bind_ok.1 ht
  obtain ⟨a2, rfl⟩ := fetch_ok.1 h1
  have a2' : CharAdmitted (twoDone s va vb) 2 := a2
  simp only [fetched_rlutOut] at h2
  split at h2
  · next hc =>
    have hc' : charAt (twoDone s va vb) 2 = .notB64 := hc
    cases h2
    exact .failC (decFailC_ok.2 ⟨va, vb, h, a2', hc', by rw [hc]⟩)
  · next hc =>
    have hc' : charAt (twoDone s va vb) 2 = .pad := hc
    rw [hc] at h2
    obtain ⟨_, h3, h4⟩ := bind_ok.1 h2
    obtain ⟨a3, rfl⟩ := fetch_ok.1 h3
    have a3' : CharAdmitted (fetched 2 .pad (twoDone s va vb)) 3 := a3
    have hp : BeginsWithTwoPad s va vb := ⟨h, a2', hc'⟩
    simp only [fetched_rlutOut] at h4
    change Except.ok (false, if isPad (charAt (fetched 2 .pad (twoDone s va vb)) 3) = true then _ else _) = _ at h4
    cases hd : charAt (fetched 2 .pad (twoDone s va vb)) 3 with
    | pad =>
      rw [hd] at h4
      cases h4
      exact .end1 (decEnd1_ok.2 ⟨va, vb, hp, a3', by rw [hd]; rfl, rfl⟩)
    | notB64 =>
      rw [hd] at h4
      cases h4
      exact .failDP (decFailDP_ok.2 ⟨va, vb, hp, a3', by rw [hd]; rfl, rfl⟩)
    | data vd =>
      rw [hd] at h4
      cases h4
      exact .failPD (decFailPD_ok.2 ⟨va, vb, hp, a3', by rw [hd]; rfl, rfl⟩)
  · next vc hc =>
    have h3' : BeginsWithThree s va vb vc := ⟨h, a2', hc⟩
    rw [hc] at h2
    obtain ⟨_, h3, h4⟩ := bind_ok.1 h2
    obtain ⟨a3, hu⟩ := fetch_ok.1 h3
    have a3' : CharAdmitted (threeDone s va vb vc) 3 := a3
    have hu' : _ = fetched 3 (charAt (threeDone s va vb vc) 3) (threeDone s va vb vc) := hu
    rw [hu'] at h4
    simp only [fetched_rlutOut] at h4
    split at h4
    · next hd =>
      rw [hd] at h4
      cases h4
      exact .failD (decFailD_ok.2 ⟨va, vb, vc, h3', a3', hd, rfl⟩)
    · next hd =>
      rw [hd] at h4
      obtain ⟨_, h5, h6⟩ := bind_ok.1 h4
      obtain ⟨h7, rfl⟩ := emit2_iff.1 h5
      cases h6
      exact .end2 (decEnd2_ok.2 ⟨va, vb, vc, h3', a3', hd, h7, rfl⟩)
    · next vd hd =>
      rw [hd] at h4
      obtain ⟨_, h5, h6⟩ := bind_ok.1 h4
      obtain ⟨_, h8, h9⟩ := bind_ok.1 h6
      cases h9
      obtain ⟨h10, h11, h12⟩ := lastBytes_ok.1 (bind_ok.2 ⟨_, h5, h8⟩)
      exact .full (decFull_ok.2 ⟨va, vb, vc, vd, h3', a3', hd, h10, h11, h12⟩)

theorem decodeGroup_pass {s t : State} {b : Bool} (h : decodeGroup s = .ok (b, t)) : GroupPass s t b := by
  obtain ⟨a0, h1⟩ := decodeGroup_start h
  cases hx : isData (charAt s 0) with
  | false =>
    rw [decodeGroup_first a0 hx] at h
    cases h
    exact .end0 (decEnd0_ok.2 ⟨a0, hx, rfl⟩)
  | true =>
    obtain ⟨va, hva⟩ := isData_iff.1 hx
    obtain ⟨a1, h2⟩ := h1 va hva
    cases hy : isData (charAt s 1) with
    | false =>
      rw [decodeGroup_second a0 hva a1 hy] at h
      cases h
      exact .failB (decFailB_ok.2 ⟨va, a0, hva, a1, hy, rfl⟩)
    | true =>
      obtain ⟨vb, hvb⟩ := isData_iff.1 hy
      have hb := h2 vb hvb
      rw [decodeGroup_begins hb] at h
      exact passAfterTwo_ok hb h

theorem passAfterTwo_pad {s : State} {va vb : Sextet} (h : BeginsWithTwoPad s va vb)
    (ha : CharAdmitted (fetched 2 .pad (twoDone s va vb)) 3) :
    passAfterTwo (twoDone s va vb) =
      .ok (false,
        if isPad (charAt (fetched 2 .pad (twoDone s va vb)) 3) then
          finishOk (fetched 3 (charAt (fetched 2 .pad (twoDone s va vb)) 3) (fetched 2 .pad (twoDone s va vb)))
        else
          raiseMalformed (fetched 3 (charAt (fetched 2 .pad (twoDone s va vb)) 3) (fetched 2 .pad (twoDone s va vb)))) := by
  unfold passAfterTwo
  rw [fetch_eq h.2.1, ok_bind, h.2.2]
  simp only [fetched_rlutOut]
  rw [fetch_eq ha, ok_bind]
  rfl

/-- The part of a pass after three data characters. -/
def passAfterThree (u : State) : Res (Bool × State) := do
  let s ← fetch 3 u
  match s.rlutOut with
  | .notB64 => .ok (false, raiseMalformed s)
  | .pad => do
    let s ← emit2 s
    .ok (false, finishOk s)
  | .data vd => do
    let s ← emit2 s
    let s ← decByte3 (shift vd s)
    .ok (true, s)

theorem passAfterTwo_data {s : State} {va vb vc : Sextet} (h : BeginsWithThree s va vb vc) :
    passAfterTwo (twoDone s va vb) = passAfterThree (threeDone s va vb vc) := by
  unfold passAfterTwo
  rw [fetch_eq h.2.1, ok_bind, h.2.2]
  rfl

theorem decodeGroup_of_pass {s t : State} {b : Bool} (h : GroupPass s t b) : decodeGroup s = .ok (b, t) := by
  cases h with
  | end0 h =>
    obtain ⟨a0, hx, rfl⟩ := decEnd0_ok.1 h
    exact decodeGroup_first a0 hx
  | failB h =>
    obtain ⟨va, a0, hva, a1, hx, rfl⟩ := decFailB_ok.1 h
    exact decodeGroup_second a0 hva a1 hx
  | failC h =>
    obtain ⟨va, vb, hb, a2, hc, rfl⟩ := decFailC_ok.1 h
    rw [decodeGroup_begins hb, passAfterTwo, fetch_eq a2, ok_bind, hc]
    rfl
  | failDP h =>
    obtain ⟨va, vb, hb, a3, hd, rfl⟩ := decFailDP_ok.1 h
    rw [decodeGroup_begins hb.1, passAfterTwo_pad hb a3, isNotB64_iff.1 hd]
    rfl
  | failPD h =>
    obtain ⟨va, vb, hb, a3, hd, rfl⟩ := decFailPD_ok.1 h
    obtain ⟨vd, hd⟩ := isData_iff.1 hd
    rw [decodeGroup_begins hb.1, passAfterTwo_pad hb a3, hd]
    rfl
  | end1 h =>
    obtain ⟨va, vb, hb, a3, hd, rfl⟩ := decEnd1_ok.1 h
    rw [decodeGroup_begins hb.1, passAfterTwo_pad hb a3, isPad_iff.1 hd]
    rfl
  | failD h =>
    obtain ⟨va, vb, vc, hb, a3, hd, rfl⟩ := decFailD_ok.1 h
    rw [decodeGroup_begins hb.1, passAfterTwo_data hb, passAfterThree, fetch_eq a3, ok_bind, hd]
    rfl
  | end2 h =>
    obtain ⟨va, vb, vc, hb, a3, hd, hw, rfl⟩ := decEnd2_ok.1 h
    rw [decodeGroup_begins hb.1, passAfterTwo_data hb, passAfterThree, fetch_eq a3, ok_bind, hd]
    simp only [fetched_rlutOut]
    exact bind_ok.2 ⟨_, emit2_iff.2 ⟨hw, rfl⟩, rfl⟩
  | full h =>
    obtain ⟨va, vb, vc, vd, hb, a3, hd, hw, hw', rfl⟩ := decFull_ok.1 h
    rw [decodeGroup_begins hb.1, passAfterTwo_data hb, passAfterThree, fetch_eq a3, ok_bind, hd]
    simp only [fetched_rlutOut]
    obtain ⟨u, h1, h2⟩ := bind_ok.1 (lastBytes_ok (vd := vd) (s := fetched 3 (.data vd) (threeDone s va vb vc)).2 ⟨hw, hw', rfl⟩)
    exact bind_ok.2 ⟨u, h1, bind_ok.2 ⟨_, h2, rfl⟩⟩

/-- One pass of the loop is one group action, and every group action is a pass (R106). -/
theorem decodeGroup_ok {s t : State} {b : Bool} : decodeGroup s = .ok (b, t) ↔ GroupPass s t b :=
  ⟨decodeGroup_pass, decodeGroup_of_pass⟩

/-- The loop runs one pass at a time. -/
theorem decodeLoop_succ {n : Nat} {s t : State} :
    decodeLoop (n + 1) s = .ok t ↔
      GroupPass s t false ∨ ∃ u, GroupPass s u true ∧ decodeLoop n u = .ok t := by
  change (decodeGroup s >>= fun r => if r.1 then decodeLoop n r.2 else .ok r.2) = .ok t ↔ _
  rw [bind_ok]
  constructor
  · rintro ⟨⟨b, u⟩, h, ht⟩
    cases b with
    | false => cases ht; exact .inl (decodeGroup_ok.1 h)
    | true => exact .inr ⟨u, decodeGroup_ok.1 h, ht⟩
  · rintro (h | ⟨u, h, ht⟩)
    · exact ⟨(false, t), decodeGroup_ok.2 h, rfl⟩
    · exact ⟨(true, u), decodeGroup_ok.2 h, ht⟩

/-- `DECODE` completes exactly where it is ignored, or where the string ends, the premise holds and the loop completes. -/
theorem execDecode_ok {s t : State} :
    execDecode s = .next t ↔
      (s.dec.busy = true ∧ t = s) ∨
        (s.dec.busy = false ∧ ∃ n, strLen s s.io.decSrc = some n ∧
          (decViews s.io.decDest s.io.decSrc n).Allowed s (encRunning s) ∧
          decodeLoop (n / 4 + 1) (decLatch s) = .ok t) := by
  unfold execDecode
  rw [answer_eq_next]
  split
  · next h => simp [h, eq_comm]
  · next h =>
    rw [Bool.not_eq_true] at h
    split
    · next hn => simp [h, hn]
    · next n hn =>
      rw [bind_ok]
      constructor
      · rintro ⟨u, hu, ht⟩
        obtain ⟨ha, rfl⟩ := (decAccept_some hn).1 hu
        exact .inr ⟨h, n, hn, ha, ht⟩
      · rintro (⟨hb, -⟩ | ⟨-, m, hm, ha, ht⟩)
        · exact absurd (hb.symm.trans h) (by decide)
        · rw [hn] at hm
          cases hm
          exact ⟨_, (decAccept_some hn).2 ⟨ha, rfl⟩, ht⟩

end Sys2Proof.Machine
end

