-- ==== Sys2Proof/Laws/Dispatch.lean ====
section
/-!
SUPPORT. What running a row can be, said once: one of the operations of the block, or a table lookup that answers into its latch.
-/

namespace Sys2Proof.Machine

/-- The meaning of each row: the rows of the two tables all have one shape each. -/
inductive RowMeaning (s : State) : Instr → Answer → Prop where
  | encode : RowMeaning s .encode (execEncode s)
  | decode : RowMeaning s .decode (execDecode s)
  | encStart : RowMeaning s .encStart (execEncStart s)
  | decStart : RowMeaning s .decStart (execDecStart s)
  | encG3 : RowMeaning s .encG3 (execEncG3 s)
  | encT2 : RowMeaning s .encT2 (execEncT2 s)
  | encT1 : RowMeaning s .encT1 (execEncT1 s)
  | encT0 : RowMeaning s .encT0 (execEncT0 s)
  | decEnd0 : RowMeaning s .decEnd0 (execDecEnd0 s)
  | decFailB : RowMeaning s .decFailB (execDecFailB s)
  | decFailC : RowMeaning s .decFailC (execDecFailC s)
  | decFailD : RowMeaning s .decFailD (execDecFailD s)
  | decFailDP : RowMeaning s .decFailDP (execDecFailDP s)
  | decFailPD : RowMeaning s .decFailPD (execDecFailPD s)
  | decEnd1 : RowMeaning s .decEnd1 (execDecEnd1 s)
  | decEnd2 : RowMeaning s .decEnd2 (execDecEnd2 s)
  | decFull : RowMeaning s .decFull (execDecFull s)
  | decFetch (k : Nat) : RowMeaning s (.decFetch k) (execDecFetch k s)
  | decShift (v : Sextet) : RowMeaning s (.decShift v) (execDecShift v s)
  | decEmit1 : RowMeaning s .decEmit1 (execDecEmit1 s)
  | decEmit2 : RowMeaning s .decEmit2 (execDecEmit2 s)
  | alpha (i : Instr) (c : Byte) : RowMeaning s i (.next (alphaAnswers s c))
  | rlut (i : Instr) (x : CharClass) : RowMeaning s i (.next (rlutAnswers s x))

theorem exec_meaning (i : Instr) (s : State) : RowMeaning s i (exec i s) := by
  cases i with
  | encode => exact .encode
  | decode => exact .decode
  | encStart => exact .encStart
  | decStart => exact .decStart
  | encG3 => exact .encG3
  | encT2 => exact .encT2
  | encT1 => exact .encT1
  | encT0 => exact .encT0
  | decEnd0 => exact .decEnd0
  | decFailB => exact .decFailB
  | decFailC => exact .decFailC
  | decFailD => exact .decFailD
  | decFailDP => exact .decFailDP
  | decFailPD => exact .decFailPD
  | decEnd1 => exact .decEnd1
  | decEnd2 => exact .decEnd2
  | decFull => exact .decFull
  | decEmit1 => exact .decEmit1
  | decEmit2 => exact .decEmit2
  | decFetch k => exact .decFetch k
  | decShift v => exact .decShift v
  | alpha0 => exact .alpha _ _
  | alpha1 => exact .alpha _ _
  | alpha2 => exact .alpha _ _
  | alpha3 => exact .alpha _ _
  | alpha4 => exact .alpha _ _
  | alpha5 => exact .alpha _ _
  | alpha6 => exact .alpha _ _
  | alpha7 => exact .alpha _ _
  | alpha8 => exact .alpha _ _
  | alpha9 => exact .alpha _ _
  | alpha10 => exact .alpha _ _
  | alpha11 => exact .alpha _ _
  | alpha12 => exact .alpha _ _
  | alpha13 => exact .alpha _ _
  | alpha14 => exact .alpha _ _
  | alpha15 => exact .alpha _ _
  | alpha16 => exact .alpha _ _
  | alpha17 => exact .alpha _ _
  | alpha18 => exact .alpha _ _
  | alpha19 => exact .alpha _ _
  | alpha20 => exact .alpha _ _
  | alpha21 => exact .alpha _ _
  | alpha22 => exact .alpha _ _
  | alpha23 => exact .alpha _ _
  | alpha24 => exact .alpha _ _
  | alpha25 => exact .alpha _ _
  | alpha26 => exact .alpha _ _
  | alpha27 => exact .alpha _ _
  | alpha28 => exact .alpha _ _
  | alpha29 => exact .alpha _ _
  | alpha30 => exact .alpha _ _
  | alpha31 => exact .alpha _ _
  | alpha32 => exact .alpha _ _
  | alpha33 => exact .alpha _ _
  | alpha34 => exact .alpha _ _
  | alpha35 => exact .alpha _ _
  | alpha36 => exact .alpha _ _
  | alpha37 => exact .alpha _ _
  | alpha38 => exact .alpha _ _
  | alpha39 => exact .alpha _ _
  | alpha40 => exact .alpha _ _
  | alpha41 => exact .alpha _ _
  | alpha42 => exact .alpha _ _
  | alpha43 => exact .alpha _ _
  | alpha44 => exact .alpha _ _
  | alpha45 => exact .alpha _ _
  | alpha46 => exact .alpha _ _
  | alpha47 => exact .alpha _ _
  | alpha48 => exact .alpha _ _
  | alpha49 => exact .alpha _ _
  | alpha50 => exact .alpha _ _
  | alpha51 => exact .alpha _ _
  | alpha52 => exact .alpha _ _
  | alpha53 => exact .alpha _ _
  | alpha54 => exact .alpha _ _
  | alpha55 => exact .alpha _ _
  | alpha56 => exact .alpha _ _
  | alpha57 => exact .alpha _ _
  | alpha58 => exact .alpha _ _
  | alpha59 => exact .alpha _ _
  | alpha60 => exact .alpha _ _
  | alpha61 => exact .alpha _ _
  | alpha62 => exact .alpha _ _
  | alpha63 => exact .alpha _ _
  | rlut00 => exact .rlut _ _
  | rlut01 => exact .rlut _ _
  | rlut02 => exact .rlut _ _
  | rlut03 => exact .rlut _ _
  | rlut04 => exact .rlut _ _
  | rlut05 => exact .rlut _ _
  | rlut06 => exact .rlut _ _
  | rlut07 => exact .rlut _ _
  | rlut08 => exact .rlut _ _
  | rlut09 => exact .rlut _ _
  | rlut0A => exact .rlut _ _
  | rlut0B => exact .rlut _ _
  | rlut0C => exact .rlut _ _
  | rlut0D => exact .rlut _ _
  | rlut0E => exact .rlut _ _
  | rlut0F => exact .rlut _ _
  | rlut10 => exact .rlut _ _
  | rlut11 => exact .rlut _ _
  | rlut12 => exact .rlut _ _
  | rlut13 => exact .rlut _ _
  | rlut14 => exact .rlut _ _
  | rlut15 => exact .rlut _ _
  | rlut16 => exact .rlut _ _
  | rlut17 => exact .rlut _ _
  | rlut18 => exact .rlut _ _
  | rlut19 => exact .rlut _ _
  | rlut1A => exact .rlut _ _
  | rlut1B => exact .rlut _ _
  | rlut1C => exact .rlut _ _
  | rlut1D => exact .rlut _ _
  | rlut1E => exact .rlut _ _
  | rlut1F => exact .rlut _ _
  | rlut20 => exact .rlut _ _
  | rlut21 => exact .rlut _ _
  | rlut22 => exact .rlut _ _
  | rlut23 => exact .rlut _ _
  | rlut24 => exact .rlut _ _
  | rlut25 => exact .rlut _ _
  | rlut26 => exact .rlut _ _
  | rlut27 => exact .rlut _ _
  | rlut28 => exact .rlut _ _
  | rlut29 => exact .rlut _ _
  | rlut2A => exact .rlut _ _
  | rlut2B => exact .rlut _ _
  | rlut2C => exact .rlut _ _
  | rlut2D => exact .rlut _ _
  | rlut2E => exact .rlut _ _
  | rlut2F => exact .rlut _ _
  | rlut30 => exact .rlut _ _
  | rlut31 => exact .rlut _ _
  | rlut32 => exact .rlut _ _
  | rlut33 => exact .rlut _ _
  | rlut34 => exact .rlut _ _
  | rlut35 => exact .rlut _ _
  | rlut36 => exact .rlut _ _
  | rlut37 => exact .rlut _ _
  | rlut38 => exact .rlut _ _
  | rlut39 => exact .rlut _ _
  | rlut3A => exact .rlut _ _
  | rlut3B => exact .rlut _ _
  | rlut3C => exact .rlut _ _
  | rlut3D => exact .rlut _ _
  | rlut3E => exact .rlut _ _
  | rlut3F => exact .rlut _ _
  | rlut40 => exact .rlut _ _
  | rlut41 => exact .rlut _ _
  | rlut42 => exact .rlut _ _
  | rlut43 => exact .rlut _ _
  | rlut44 => exact .rlut _ _
  | rlut45 => exact .rlut _ _
  | rlut46 => exact .rlut _ _
  | rlut47 => exact .rlut _ _
  | rlut48 => exact .rlut _ _
  | rlut49 => exact .rlut _ _
  | rlut4A => exact .rlut _ _
  | rlut4B => exact .rlut _ _
  | rlut4C => exact .rlut _ _
  | rlut4D => exact .rlut _ _
  | rlut4E => exact .rlut _ _
  | rlut4F => exact .rlut _ _
  | rlut50 => exact .rlut _ _
  | rlut51 => exact .rlut _ _
  | rlut52 => exact .rlut _ _
  | rlut53 => exact .rlut _ _
  | rlut54 => exact .rlut _ _
  | rlut55 => exact .rlut _ _
  | rlut56 => exact .rlut _ _
  | rlut57 => exact .rlut _ _
  | rlut58 => exact .rlut _ _
  | rlut59 => exact .rlut _ _
  | rlut5A => exact .rlut _ _
  | rlut5B => exact .rlut _ _
  | rlut5C => exact .rlut _ _
  | rlut5D => exact .rlut _ _
  | rlut5E => exact .rlut _ _
  | rlut5F => exact .rlut _ _
  | rlut60 => exact .rlut _ _
  | rlut61 => exact .rlut _ _
  | rlut62 => exact .rlut _ _
  | rlut63 => exact .rlut _ _
  | rlut64 => exact .rlut _ _
  | rlut65 => exact .rlut _ _
  | rlut66 => exact .rlut _ _
  | rlut67 => exact .rlut _ _
  | rlut68 => exact .rlut _ _
  | rlut69 => exact .rlut _ _
  | rlut6A => exact .rlut _ _
  | rlut6B => exact .rlut _ _
  | rlut6C => exact .rlut _ _
  | rlut6D => exact .rlut _ _
  | rlut6E => exact .rlut _ _
  | rlut6F => exact .rlut _ _
  | rlut70 => exact .rlut _ _
  | rlut71 => exact .rlut _ _
  | rlut72 => exact .rlut _ _
  | rlut73 => exact .rlut _ _
  | rlut74 => exact .rlut _ _
  | rlut75 => exact .rlut _ _
  | rlut76 => exact .rlut _ _
  | rlut77 => exact .rlut _ _
  | rlut78 => exact .rlut _ _
  | rlut79 => exact .rlut _ _
  | rlut7A => exact .rlut _ _
  | rlut7B => exact .rlut _ _
  | rlut7C => exact .rlut _ _
  | rlut7D => exact .rlut _ _
  | rlut7E => exact .rlut _ _
  | rlut7F => exact .rlut _ _
  | rlut80 => exact .rlut _ _
  | rlut81 => exact .rlut _ _
  | rlut82 => exact .rlut _ _
  | rlut83 => exact .rlut _ _
  | rlut84 => exact .rlut _ _
  | rlut85 => exact .rlut _ _
  | rlut86 => exact .rlut _ _
  | rlut87 => exact .rlut _ _
  | rlut88 => exact .rlut _ _
  | rlut89 => exact .rlut _ _
  | rlut8A => exact .rlut _ _
  | rlut8B => exact .rlut _ _
  | rlut8C => exact .rlut _ _
  | rlut8D => exact .rlut _ _
  | rlut8E => exact .rlut _ _
  | rlut8F => exact .rlut _ _
  | rlut90 => exact .rlut _ _
  | rlut91 => exact .rlut _ _
  | rlut92 => exact .rlut _ _
  | rlut93 => exact .rlut _ _
  | rlut94 => exact .rlut _ _
  | rlut95 => exact .rlut _ _
  | rlut96 => exact .rlut _ _
  | rlut97 => exact .rlut _ _
  | rlut98 => exact .rlut _ _
  | rlut99 => exact .rlut _ _
  | rlut9A => exact .rlut _ _
  | rlut9B => exact .rlut _ _
  | rlut9C => exact .rlut _ _
  | rlut9D => exact .rlut _ _
  | rlut9E => exact .rlut _ _
  | rlut9F => exact .rlut _ _
  | rlutA0 => exact .rlut _ _
  | rlutA1 => exact .rlut _ _
  | rlutA2 => exact .rlut _ _
  | rlutA3 => exact .rlut _ _
  | rlutA4 => exact .rlut _ _
  | rlutA5 => exact .rlut _ _
  | rlutA6 => exact .rlut _ _
  | rlutA7 => exact .rlut _ _
  | rlutA8 => exact .rlut _ _
  | rlutA9 => exact .rlut _ _
  | rlutAA => exact .rlut _ _
  | rlutAB => exact .rlut _ _
  | rlutAC => exact .rlut _ _
  | rlutAD => exact .rlut _ _
  | rlutAE => exact .rlut _ _
  | rlutAF => exact .rlut _ _
  | rlutB0 => exact .rlut _ _
  | rlutB1 => exact .rlut _ _
  | rlutB2 => exact .rlut _ _
  | rlutB3 => exact .rlut _ _
  | rlutB4 => exact .rlut _ _
  | rlutB5 => exact .rlut _ _
  | rlutB6 => exact .rlut _ _
  | rlutB7 => exact .rlut _ _
  | rlutB8 => exact .rlut _ _
  | rlutB9 => exact .rlut _ _
  | rlutBA => exact .rlut _ _
  | rlutBB => exact .rlut _ _
  | rlutBC => exact .rlut _ _
  | rlutBD => exact .rlut _ _
  | rlutBE => exact .rlut _ _
  | rlutBF => exact .rlut _ _
  | rlutC0 => exact .rlut _ _
  | rlutC1 => exact .rlut _ _
  | rlutC2 => exact .rlut _ _
  | rlutC3 => exact .rlut _ _
  | rlutC4 => exact .rlut _ _
  | rlutC5 => exact .rlut _ _
  | rlutC6 => exact .rlut _ _
  | rlutC7 => exact .rlut _ _
  | rlutC8 => exact .rlut _ _
  | rlutC9 => exact .rlut _ _
  | rlutCA => exact .rlut _ _
  | rlutCB => exact .rlut _ _
  | rlutCC => exact .rlut _ _
  | rlutCD => exact .rlut _ _
  | rlutCE => exact .rlut _ _
  | rlutCF => exact .rlut _ _
  | rlutD0 => exact .rlut _ _
  | rlutD1 => exact .rlut _ _
  | rlutD2 => exact .rlut _ _
  | rlutD3 => exact .rlut _ _
  | rlutD4 => exact .rlut _ _
  | rlutD5 => exact .rlut _ _
  | rlutD6 => exact .rlut _ _
  | rlutD7 => exact .rlut _ _
  | rlutD8 => exact .rlut _ _
  | rlutD9 => exact .rlut _ _
  | rlutDA => exact .rlut _ _
  | rlutDB => exact .rlut _ _
  | rlutDC => exact .rlut _ _
  | rlutDD => exact .rlut _ _
  | rlutDE => exact .rlut _ _
  | rlutDF => exact .rlut _ _
  | rlutE0 => exact .rlut _ _
  | rlutE1 => exact .rlut _ _
  | rlutE2 => exact .rlut _ _
  | rlutE3 => exact .rlut _ _
  | rlutE4 => exact .rlut _ _
  | rlutE5 => exact .rlut _ _
  | rlutE6 => exact .rlut _ _
  | rlutE7 => exact .rlut _ _
  | rlutE8 => exact .rlut _ _
  | rlutE9 => exact .rlut _ _
  | rlutEA => exact .rlut _ _
  | rlutEB => exact .rlut _ _
  | rlutEC => exact .rlut _ _
  | rlutED => exact .rlut _ _
  | rlutEE => exact .rlut _ _
  | rlutEF => exact .rlut _ _
  | rlutF0 => exact .rlut _ _
  | rlutF1 => exact .rlut _ _
  | rlutF2 => exact .rlut _ _
  | rlutF3 => exact .rlut _ _
  | rlutF4 => exact .rlut _ _
  | rlutF5 => exact .rlut _ _
  | rlutF6 => exact .rlut _ _
  | rlutF7 => exact .rlut _ _
  | rlutF8 => exact .rlut _ _
  | rlutF9 => exact .rlut _ _
  | rlutFA => exact .rlut _ _
  | rlutFB => exact .rlut _ _
  | rlutFC => exact .rlut _ _
  | rlutFD => exact .rlut _ _
  | rlutFE => exact .rlut _ _
  | rlutFF => exact .rlut _ _

end Sys2Proof.Machine
end

