-- ==== Sys2Proof/Laws/Frames.lean ====
section
/-!
SUPPORT. What each unit's operations leave alone outside the unit and the memory (10_state.md R26): relations that hold between the state
before and the state after, and compose.
-/

namespace Sys2Proof.Machine

/-- Everything but the encoder, the memory and the alphabet latch is as before. -/
structure EncKeeps (s t : State) : Prop where
  plat : t.plat = s.plat
  dec : t.dec = s.dec
  io : t.io = s.io
  rlutOut : t.rlutOut = s.rlutOut
  request : t.request = s.request
  script : t.script = s.script
  freeIx : t.freeIx = s.freeIx

/-- Everything but the decoder, the memory and the reverse lookup latch is as before. -/
structure DecKeeps (s t : State) : Prop where
  plat : t.plat = s.plat
  enc : t.enc = s.enc
  io : t.io = s.io
  alphaOut : t.alphaOut = s.alphaOut
  request : t.request = s.request
  script : t.script = s.script
  freeIx : t.freeIx = s.freeIx

theorem EncKeeps.refl (s : State) : EncKeeps s s := ⟨rfl, rfl, rfl, rfl, rfl, rfl, rfl⟩

theorem DecKeeps.refl (s : State) : DecKeeps s s := ⟨rfl, rfl, rfl, rfl, rfl, rfl, rfl⟩

theorem EncKeeps.trans {s t u : State} (h : EncKeeps s t) (h' : EncKeeps t u) : EncKeeps s u :=
  ⟨h'.plat.trans h.plat, h'.dec.trans h.dec, h'.io.trans h.io, h'.rlutOut.trans h.rlutOut, h'.request.trans h.request,
    h'.script.trans h.script, h'.freeIx.trans h.freeIx⟩

theorem DecKeeps.trans {s t u : State} (h : DecKeeps s t) (h' : DecKeeps t u) : DecKeeps s u :=
  ⟨h'.plat.trans h.plat, h'.enc.trans h.enc, h'.io.trans h.io, h'.alphaOut.trans h.alphaOut, h'.request.trans h.request,
    h'.script.trans h.script, h'.freeIx.trans h.freeIx⟩

/-! ## The encoder -/

theorem encLatch_keeps (s : State) : EncKeeps s (encLatch s) := ⟨rfl, rfl, rfl, rfl, rfl, rfl, rfl⟩

theorem encGroup_keeps {s t : State} (h : encGroup s = .ok t) : EncKeeps s t := by
  obtain ⟨-, -, rfl⟩ := encGroup_ok.1 h
  exact ⟨rfl, rfl, rfl, rfl, rfl, rfl, rfl⟩

theorem encTail2_keeps {s t : State} (h : encTail2 s = .ok t) : EncKeeps s t := by
  obtain ⟨-, -, rfl⟩ := encTail2_ok.1 h
  exact ⟨rfl, rfl, rfl, rfl, rfl, rfl, rfl⟩

theorem encTail1_keeps {s t : State} (h : encTail1 s = .ok t) : EncKeeps s t := by
  obtain ⟨-, -, rfl⟩ := encTail1_ok.1 h
  exact ⟨rfl, rfl, rfl, rfl, rfl, rfl, rfl⟩

theorem encFinish_keeps {s t : State} (h : encFinish s = .ok t) : EncKeeps s t := by
  obtain ⟨-, rfl⟩ := encFinish_ok.1 h
  exact ⟨rfl, rfl, rfl, rfl, rfl, rfl, rfl⟩

theorem encTail_keeps {s t : State} (h : encTail s = .ok t) : EncKeeps s t := by
  rcases encTail_ok.1 h with ⟨-, h⟩ | ⟨-, h⟩ | ⟨-, -, rfl⟩
  · exact encTail2_keeps h
  · exact encTail1_keeps h
  · exact .refl _

theorem encGroups_keeps {n : Nat} {s t : State} (h : encGroups n s = .ok t) : EncKeeps s t := by
  induction n generalizing s with
  | zero => cases h; exact .refl _
  | succ n ih =>
    obtain ⟨u, h1, h2⟩ := encGroups_succ.1 h
    exact (encGroup_keeps h1).trans (ih h2)

theorem encodeWhole_ok {s t : State} :
    encodeWhole s = .ok t ↔
      ∃ u v, encGroups (s.enc.rem / 3) s = .ok u ∧ encTail u = .ok v ∧ encFinish v = .ok t := by
  unfold encodeWhole
  simp only [bind_ok]
  exact ⟨fun ⟨u, h, v, h', h''⟩ => ⟨u, v, h, h', h''⟩, fun ⟨u, v, h, h', h''⟩ => ⟨u, h, v, h', h''⟩⟩

theorem encodeWhole_keeps {s t : State} (h : encodeWhole s = .ok t) : EncKeeps s t := by
  obtain ⟨u, v, h1, h2, h3⟩ := encodeWhole_ok.1 h
  exact ((encGroups_keeps h1).trans (encTail_keeps h2)).trans (encFinish_keeps h3)

theorem execEncode_keeps {s t : State} (h : execEncode s = .next t) : EncKeeps s t := by
  rcases execEncode_ok.1 h with ⟨-, rfl⟩ | ⟨-, -, h⟩
  · exact .refl _
  · exact (encLatch_keeps s).trans (encodeWhole_keeps h)

/-! ## The decoder -/

theorem decLatch_keeps (s : State) : DecKeeps s (decLatch s) := ⟨rfl, rfl, rfl, rfl, rfl, rfl, rfl⟩

theorem fetched_keeps (k : Nat) (x : CharClass) (s : State) : DecKeeps s (fetched k x s) := ⟨rfl, rfl, rfl, rfl, rfl, rfl, rfl⟩

theorem shift_keeps (v : Sextet) (s : State) : DecKeeps s (shift v s) := ⟨rfl, rfl, rfl, rfl, rfl, rfl, rfl⟩

theorem finishOk_keeps (s : State) : DecKeeps s (finishOk s) := ⟨rfl, rfl, rfl, rfl, rfl, rfl, rfl⟩

theorem raiseMalformed_keeps (s : State) : DecKeeps s (raiseMalformed s) := ⟨rfl, rfl, rfl, rfl, rfl, rfl, rfl⟩

theorem twoDone_keeps (s : State) (va vb : Sextet) : DecKeeps s (twoDone s va vb) := ⟨rfl, rfl, rfl, rfl, rfl, rfl, rfl⟩

theorem threeDone_keeps (s : State) (va vb vc : Sextet) : DecKeeps s (threeDone s va vb vc) :=
  ⟨rfl, rfl, rfl, rfl, rfl, rfl, rfl⟩

theorem byte2Done_keeps (s : State) : DecKeeps s (byte2Done s) := ⟨rfl, rfl, rfl, rfl, rfl, rfl, rfl⟩

theorem byte3Done_keeps (s : State) : DecKeeps s (byte3Done s) := ⟨rfl, rfl, rfl, rfl, rfl, rfl, rfl⟩

theorem GroupPass.keeps {s t : State} {b : Bool} (h : GroupPass s t b) : DecKeeps s t := by
  cases h with
  | end0 h => obtain ⟨-, -, rfl⟩ := decEnd0_ok.1 h; exact ⟨rfl, rfl, rfl, rfl, rfl, rfl, rfl⟩
  | failB h => obtain ⟨_, -, -, -, -, rfl⟩ := decFailB_ok.1 h; exact ⟨rfl, rfl, rfl, rfl, rfl, rfl, rfl⟩
  | failC h => obtain ⟨_, _, -, -, -, rfl⟩ := decFailC_ok.1 h; exact ⟨rfl, rfl, rfl, rfl, rfl, rfl, rfl⟩
  | failD h =>
    obtain ⟨_, _, _, -, -, -, rfl⟩ := decFailD_ok.1 h
    exact ((threeDone_keeps _ _ _ _).trans (fetched_keeps _ _ _)).trans (raiseMalformed_keeps _)
  | failDP h =>
    obtain ⟨_, _, -, -, -, rfl⟩ := decFailDP_ok.1 h
    exact (((twoDone_keeps _ _ _).trans (fetched_keeps _ _ _)).trans (fetched_keeps _ _ _)).trans (raiseMalformed_keeps _)
  | failPD h =>
    obtain ⟨_, _, -, -, -, rfl⟩ := decFailPD_ok.1 h
    exact (((twoDone_keeps _ _ _).trans (fetched_keeps _ _ _)).trans (fetched_keeps _ _ _)).trans (raiseMalformed_keeps _)
  | end1 h =>
    obtain ⟨_, _, -, -, -, rfl⟩ := decEnd1_ok.1 h
    exact (((twoDone_keeps _ _ _).trans (fetched_keeps _ _ _)).trans (fetched_keeps _ _ _)).trans (finishOk_keeps _)
  | end2 h =>
    obtain ⟨_, _, _, -, -, -, -, rfl⟩ := decEnd2_ok.1 h
    exact (((threeDone_keeps _ _ _ _).trans (fetched_keeps _ _ _)).trans (byte2Done_keeps _)).trans (finishOk_keeps _)
  | full h =>
    obtain ⟨_, _, _, _, -, -, -, -, -, rfl⟩ := decFull_ok.1 h
    exact ((((threeDone_keeps _ _ _ _).trans (fetched_keeps _ _ _)).trans (byte2Done_keeps _)).trans (shift_keeps _ _)).trans
      (byte3Done_keeps _)

theorem decodeLoop_keeps {n : Nat} {s t : State} (h : decodeLoop n s = .ok t) : DecKeeps s t := by
  induction n generalizing s with
  | zero => exact nomatch h
  | succ n ih =>
    rcases decodeLoop_succ.1 h with h | ⟨u, h, h'⟩
    · exact h.keeps
    · exact h.keeps.trans (ih h')

theorem execDecode_keeps {s t : State} (h : execDecode s = .next t) : DecKeeps s t := by
  rcases execDecode_ok.1 h with ⟨-, rfl⟩ | ⟨-, n, -, -, h⟩
  · exact .refl _
  · exact (decLatch_keeps s).trans (decodeLoop_keeps h)

/-! ## The rows -/

theorem whenEncSelects_next {m : Nat} {s t : State} {body : State → Res State}
    (h : answer (whenEncSelects m s body) = .next t) : body s = .ok t :=
  (whenEncSelects_ok.1 (answer_eq_next.1 h)).2.2.2

theorem whenDecBusy_next {s t : State} {body : State → Res State} (h : answer (whenDecBusy s body) = .next t) :
    s.dec.busy = true ∧ s.dec.phase = .read1 ∧ body s = .ok t :=
  whenDecBusy_ok.1 (answer_eq_next.1 h)

/-- `ENC.START` changes nothing, or latches the command (R71). -/
theorem execEncStart_next {s t : State} (h : execEncStart s = .next t) :
    t = s ∨ s.enc.busy = false ∧ (encCommandViews s).Allowed s (decRunning s) ∧ t = encLatch s := by
  have h := answer_eq_next.1 h
  split at h
  · next hb =>
    rw [Bool.and_eq_true, Bool.not_eq_true'] at hb
    exact .inr ⟨hb.2, encAccept_ok.1 h⟩
  · cases h; exact .inl rfl

/-- `DEC.START` changes nothing, or latches the command (R86). -/
theorem execDecStart_next {s t : State} (h : execDecStart s = .next t) :
    t = s ∨ s.dec.busy = false ∧ t = decLatch s := by
  have h := answer_eq_next.1 h
  split at h
  · next hb =>
    rw [Bool.and_eq_true, Bool.not_eq_true'] at hb
    exact .inr ⟨hb.2, decAccept_ok h⟩
  · cases h; exact .inl rfl

theorem execDecFetch_next {k : Nat} {s t : State} (h : execDecFetch k s = .next t) :
    k = s.dec.k.toNat ∧ fetch k s = .ok t := by
  have h := answer_eq_next.1 h
  split at h
  · next hk => exact ⟨hk, h⟩
  · exact absurd h (refuse_ne_ok _ _)

/-- What a row that runs is: a row of the encoder, a row of the decoder, or a lookup. -/
theorem exec_keeps {i : Instr} {s t : State} (h : exec i s = .next t) :
    EncKeeps s t ∨ DecKeeps s t := by
  have hm := exec_meaning i s
  generalize exec i s = r at hm h
  cases hm with
  | encode => exact .inl (execEncode_keeps h)
  | decode => exact .inr (execDecode_keeps h)
  | encStart =>
    rcases execEncStart_next h with rfl | ⟨-, -, rfl⟩
    exacts [.inl (.refl _), .inl (encLatch_keeps s)]
  | decStart =>
    rcases execDecStart_next h with rfl | ⟨-, rfl⟩
    exacts [.inr (.refl _), .inr (decLatch_keeps s)]
  | encG3 => exact .inl (encGroup_keeps (whenEncSelects_next h))
  | encT2 => exact .inl (encTail2_keeps (whenEncSelects_next h))
  | encT1 => exact .inl (encTail1_keeps (whenEncSelects_next h))
  | encT0 => exact .inl (encFinish_keeps (whenEncSelects_next h))
  | decEnd0 => exact .inr (GroupPass.end0 (whenDecBusy_next h).2.2).keeps
  | decFailB => exact .inr (GroupPass.failB (whenDecBusy_next h).2.2).keeps
  | decFailC => exact .inr (GroupPass.failC (whenDecBusy_next h).2.2).keeps
  | decFailD => exact .inr (GroupPass.failD (whenDecBusy_next h).2.2).keeps
  | decFailDP => exact .inr (GroupPass.failDP (whenDecBusy_next h).2.2).keeps
  | decFailPD => exact .inr (GroupPass.failPD (whenDecBusy_next h).2.2).keeps
  | decEnd1 => exact .inr (GroupPass.end1 (whenDecBusy_next h).2.2).keeps
  | decEnd2 => exact .inr (GroupPass.end2 (whenDecBusy_next h).2.2).keeps
  | decFull => exact .inr (GroupPass.full (whenDecBusy_next h).2.2).keeps
  | decFetch k =>
    obtain ⟨-, rfl⟩ := fetch_ok.1 (execDecFetch_next h).2
    exact .inr ⟨rfl, rfl, rfl, rfl, rfl, rfl, rfl⟩
  | decShift v => cases h; exact .inr ⟨rfl, rfl, rfl, rfl, rfl, rfl, rfl⟩
  | decEmit1 =>
    obtain ⟨-, rfl⟩ := emit1_ok.1 (answer_eq_next.1 h)
    exact .inr ⟨rfl, rfl, rfl, rfl, rfl, rfl, rfl⟩
  | decEmit2 =>
    obtain ⟨-, rfl⟩ := emit2_ok.1 (answer_eq_next.1 h)
    exact .inr ⟨rfl, rfl, rfl, rfl, rfl, rfl, rfl⟩
  | alpha i c => cases h; exact .inl ⟨rfl, rfl, rfl, rfl, rfl, rfl, rfl⟩
  | rlut i x => cases h; exact .inr ⟨rfl, rfl, rfl, rfl, rfl, rfl, rfl⟩

end Sys2Proof.Machine
end

