-- ==== Sys2Proof/Laws/Accesses.lean ====
section
/-!
SUPPORT. What one access of a unit can do, said once: it is made exactly when the memory admits its address, and then leaves the state written
out here (20_memory.md R32, R39, R41; 40_encoder.md R72 to R75; 41_decoder.md R89 to R99).
-/

namespace Sys2Proof.Machine

/-! ## The encoder -/

/-- The state after a character is looked up and written. -/
def sextetWritten (s : State) (a : Nat) (v : Sextet) : State :=
  (s.withAlphaOut (alphaAt v)).withMem (s.mem.set a (alphaAt v))

/-- The state after the third or fourth character. -/
def lateWritten (m : Nat) (s : State) (a : Nat) (v : Sextet) : State :=
  if m ≤ s.enc.rem then sextetWritten s a v else s.withMem (s.mem.set a PAD)

/-- The state after the encoder's next access. -/
def encAccessed (s : State) : State :=
  match s.enc.phase with
  | .read1 =>
    if s.enc.rem = 0 then { s with enc := s.enc.complete, mem := s.mem.set s.enc.dst NUL }
    else if s.enc.rem = 1 then encGroupRead (joinBytes (s.mem.get s.enc.src) 0#8 0#8) s
    else encGoOn (.read2 (s.mem.get s.enc.src)) s
  | .read2 a =>
    if s.enc.rem = 2 then encGroupRead (joinBytes a (s.mem.get (s.addr s.enc.src 1)) 0#8) s
    else encGoOn (.read3 a (s.mem.get (s.addr s.enc.src 1))) s
  | .read3 a b => encGroupRead (joinBytes a b (s.mem.get (s.addr s.enc.src 2))) s
  | .write1 => encGoOn .write2 (sextetWritten s s.enc.dst (sextet0 s.enc.g))
  | .write2 => encGoOn .write3 (sextetWritten s (s.addr s.enc.dst 1) (sextet1 s.enc.g))
  | .write3 => encGoOn .write4 (lateWritten 2 s (s.addr s.enc.dst 2) (sextet2 s.enc.g))
  | .write4 =>
    encGoOn .read1
      (encAdvance (lateWritten 3 s (s.addr s.enc.dst 3) (sextet3 s.enc.g)) (encM s.enc) (s.enc.rem - 3))

theorem writeUnlessTail_admitted {m : Nat} {s : State} {a : Nat} (v : Sextet) (h : s.plat.admits a = true) :
    writeUnlessTail m s a v = .ok (lateWritten m s a v) := by
  unfold writeUnlessTail lateWritten
  split
  · exact writeSextet_admitted v h
  · exact writeByte_admitted PAD h

theorem writeUnlessTail_stuck {m : Nat} {s : State} {a : Nat} (v : Sextet) (h : s.plat.admits a = false) :
    writeUnlessTail m s a v = .error (.fault (.unadmitted a)) := by
  unfold writeUnlessTail
  split
  · exact writeByte_stuck _ h
  · exact writeByte_stuck _ h

@[simp] theorem lateWritten_enc (m : Nat) (s : State) (a : Nat) (v : Sextet) : (lateWritten m s a v).enc = s.enc := by
  unfold lateWritten; split <;> rfl

@[simp] theorem lateWritten_mem (m : Nat) (s : State) (a : Nat) (v : Sextet) :
    (lateWritten m s a v).mem = s.mem.set a (if m ≤ s.enc.rem then alphaAt v else PAD) := by
  unfold lateWritten; split <;> rfl

theorem encAccess_admitted {s : State} (h : s.plat.admits (encNext s) = true) : encAccess s = .ok (encAccessed s) := by
  unfold encNext at h
  unfold encAccess encAccessed
  cases hp : s.enc.phase with
  | read1 =>
    simp only [hp] at h ⊢
    split at h
    · next h0 =>
      rw [if_pos h0, if_pos h0]
      exact encFinish_ok.2 ⟨h, rfl⟩
    · next h0 =>
      rw [if_neg h0, if_neg h0, readByte_admitted h]
      simp only [ok_bind]
  | read2 a => simp only [hp] at h ⊢; rw [readByte_admitted h]; simp only [ok_bind]
  | read3 a b => simp only [hp] at h ⊢; rw [readByte_admitted h]; simp only [ok_bind]
  | write1 => simp only [hp] at h ⊢; rw [writeSextet_admitted _ h]; rfl
  | write2 => simp only [hp] at h ⊢; rw [writeSextet_admitted _ h]; rfl
  | write3 => simp only [hp] at h ⊢; rw [writeUnlessTail_admitted _ h]; rfl
  | write4 => simp only [hp] at h ⊢; rw [writeUnlessTail_admitted _ h]; simp only [ok_bind, lateWritten_enc]

theorem encAccess_stuck {s : State} (h : s.plat.admits (encNext s) = false) :
    encAccess s = .error (.fault (.unadmitted (encNext s))) := by
  unfold encNext at h
  unfold encAccess encNext
  cases hp : s.enc.phase with
  | read1 =>
    simp only [hp] at h ⊢
    split at h
    · next h0 =>
      rw [if_pos h0, if_pos h0, encFinish, writeByte_stuck _ h]
      rfl
    · next h0 =>
      rw [if_neg h0, if_neg h0, readByte_stuck h]
      rfl
  | read2 a => simp only [hp] at h ⊢; rw [readByte_stuck h]; rfl
  | read3 a b => simp only [hp] at h ⊢; rw [readByte_stuck h]; rfl
  | write1 => simp only [hp] at h ⊢; rw [writeSextet, writeByte_stuck]; rfl; exact h
  | write2 => simp only [hp] at h ⊢; rw [writeSextet, writeByte_stuck]; rfl; exact h
  | write3 => simp only [hp] at h ⊢; rw [writeUnlessTail_stuck _ h]; rfl
  | write4 => simp only [hp] at h ⊢; rw [writeUnlessTail_stuck _ h]; rfl

/-- An access of the encoder is made exactly when its address is admitted. -/
theorem encAccess_ok {s t : State} : encAccess s = .ok t ↔ s.plat.admits (encNext s) = true ∧ t = encAccessed s := by
  cases h : s.plat.admits (encNext s) with
  | true =>
    rw [encAccess_admitted h]
    exact ⟨fun ht => ⟨rfl, (Except.ok.inj ht).symm⟩, fun ht => by rw [ht.2]⟩
  | false =>
    rw [encAccess_stuck h]
    exact ⟨(fun ht => nomatch ht), fun ht => nomatch ht.1⟩

theorem lateWritten_keeps (m : Nat) (s : State) (a : Nat) (v : Sextet) : EncKeeps s (lateWritten m s a v) := by
  unfold lateWritten
  split <;> exact ⟨rfl, rfl, rfl, rfl, rfl, rfl, rfl⟩

theorem encGoOn_keeps (p : EncPhase) (s : State) : EncKeeps s (encGoOn p s) := ⟨rfl, rfl, rfl, rfl, rfl, rfl, rfl⟩

/-- Outside the encoder, the alphabet latch and the memory an access of the encoder leaves everything. -/
theorem encAccessed_keeps (s : State) : EncKeeps s (encAccessed s) := by
  unfold encAccessed
  split
  · split
    · exact ⟨rfl, rfl, rfl, rfl, rfl, rfl, rfl⟩
    · split <;> exact ⟨rfl, rfl, rfl, rfl, rfl, rfl, rfl⟩
  · split <;> exact ⟨rfl, rfl, rfl, rfl, rfl, rfl, rfl⟩
  · exact ⟨rfl, rfl, rfl, rfl, rfl, rfl, rfl⟩
  · exact ⟨rfl, rfl, rfl, rfl, rfl, rfl, rfl⟩
  · exact ⟨rfl, rfl, rfl, rfl, rfl, rfl, rfl⟩
  · exact (lateWritten_keeps _ _ _ _).trans (encGoOn_keeps _ _)
  · exact (lateWritten_keeps _ _ _ _).trans ⟨rfl, rfl, rfl, rfl, rfl, rfl, rfl⟩

/-- An access of the encoder changes at most the byte at its address. -/
theorem encAccessed_mem (s : State) :
    (encAccessed s).mem = s.mem ∨ ∃ v, (encAccessed s).mem = s.mem.set (encNext s) v := by
  unfold encAccessed encNext
  cases hp : s.enc.phase with
  | read1 =>
    dsimp only
    split
    · exact .inr ⟨_, rfl⟩
    · split <;> exact .inl rfl
  | read2 a => dsimp only; split <;> exact .inl rfl
  | read3 a b => exact .inl rfl
  | write1 => exact .inr ⟨_, rfl⟩
  | write2 => exact .inr ⟨_, rfl⟩
  | write3 => exact .inr ⟨_, lateWritten_mem _ _ _ _⟩
  | write4 => exact .inr ⟨_, lateWritten_mem _ _ _ _⟩

/-! ## The decoder -/

/-- The state after the decoder's next access. -/
def decAccessed (s : State) : State :=
  match s.dec.phase with
  | .read1 =>
    match charAt s 0 with
    | .data v => decGoOn .read2 (shift v (fetched 0 (charAt s 0) s))
    | .pad => finishOk (fetched 0 (charAt s 0) s)
    | .notB64 => finishOk (fetched 0 (charAt s 0) s)
  | .read2 =>
    match charAt s 1 with
    | .data v => decGoOn .write1 (shift v (fetched 1 (charAt s 1) s))
    | .pad => decGoOn .read1 (raiseMalformed (fetched 1 (charAt s 1) s))
    | .notB64 => decGoOn .read1 (raiseMalformed (fetched 1 (charAt s 1) s))
  | .write1 => decGoOn .read3 (dstAdvanced (s.withMem (s.mem.set s.dec.dst (byte1 s.dec.sh))))
  | .read3 =>
    match charAt s 2 with
    | .data v => decGoOn .read4 (shift v (fetched 2 (charAt s 2) s))
    | .pad => decGoOn .read4 (fetched 2 (charAt s 2) s)
    | .notB64 => decGoOn .read1 (raiseMalformed (fetched 2 (charAt s 2) s))
  | .read4 =>
    match charAt s 3 with
    | .data v =>
      if s.dec.cpad then decGoOn .read1 (raiseMalformed (fetched 3 (charAt s 3) s))
      else decGoOn (.write2 (some v)) (fetched 3 (charAt s 3) s)
    | .pad =>
      if s.dec.cpad then decGoOn .read1 (finishOk (fetched 3 (charAt s 3) s))
      else decGoOn (.write2 none) (fetched 3 (charAt s 3) s)
    | .notB64 => decGoOn .read1 (raiseMalformed (fetched 3 (charAt s 3) s))
  | .write2 none => decGoOn .read1 (finishOk (byte2Done s))
  | .write2 (some v) => decGoOn (.write3 v) (byte2Done s)
  | .write3 v => decGoOn .read1 (byte3Done (shift v s))

theorem decAccess_admitted {s : State} (h : s.plat.admits (decNext s) = true) : decAccess s = .ok (decAccessed s) := by
  unfold decNext at h
  unfold decAccess decAccessed
  cases hp : s.dec.phase with
  | read1 => simp only [hp] at h ⊢; rw [fetch_eq h]; simp only [ok_bind, fetched_rlutOut] <;> rfl
  | read2 => simp only [hp] at h ⊢; rw [fetch_eq h]; simp only [ok_bind, fetched_rlutOut] <;> rfl
  | write1 => simp only [hp] at h ⊢; rw [emit1_ok.2 ⟨h, rfl⟩]; rfl
  | read3 => simp only [hp] at h ⊢; rw [fetch_eq h]; simp only [ok_bind, fetched_rlutOut] <;> rfl
  | read4 => simp only [hp] at h ⊢; rw [fetch_eq h]; simp only [ok_bind, fetched_rlutOut] <;> rfl
  | write2 d =>
    simp only [hp] at h ⊢
    cases d with
    | none => dsimp only; rw [emit2_iff.2 ⟨h, rfl⟩]; rfl
    | some v => dsimp only; rw [emit2_iff.2 ⟨h, rfl⟩]; rfl
  | write3 v =>
    simp only [hp] at h ⊢
    rw [decByte3_ok (s := shift v s).2 ⟨h, rfl⟩]; rfl

theorem emit_stuck {s : State} (v : Byte) (h : s.plat.admits s.dec.dst = false) :
    emit v s = .error (.fault (.unadmitted s.dec.dst)) := by
  unfold emit
  rw [writeByte_stuck _ h]
  rfl

theorem decAccess_stuck {s : State} (h : s.plat.admits (decNext s) = false) :
    decAccess s = .error (.fault (.unadmitted (decNext s))) := by
  unfold decNext at h
  unfold decAccess decNext
  cases hp : s.dec.phase with
  | read1 => simp only [hp] at h ⊢; rw [fetch_stuck h]; rfl
  | read2 => simp only [hp] at h ⊢; rw [fetch_stuck h]; rfl
  | write1 => simp only [hp] at h ⊢; rw [emit1, emit_stuck _ h]; rfl
  | read3 => simp only [hp] at h ⊢; rw [fetch_stuck h]; rfl
  | read4 => simp only [hp] at h ⊢; rw [fetch_stuck h]; rfl
  | write2 d =>
    simp only [hp] at h ⊢
    cases d with
    | none => dsimp only; rw [emit2, emit_stuck _ h]; rfl
    | some v => dsimp only; rw [emit2, emit_stuck _ h]; rfl
  | write3 v => simp only [hp] at h ⊢; rw [decByte3, emit_stuck (s := shift v s) _ h]; rfl

/-- An access of the decoder is made exactly when its address is admitted. -/
theorem decAccess_ok {s t : State} : decAccess s = .ok t ↔ s.plat.admits (decNext s) = true ∧ t = decAccessed s := by
  cases h : s.plat.admits (decNext s) with
  | true =>
    rw [decAccess_admitted h]
    exact ⟨fun ht => ⟨rfl, (Except.ok.inj ht).symm⟩, fun ht => by rw [ht.2]⟩
  | false =>
    rw [decAccess_stuck h]
    exact ⟨(fun ht => nomatch ht), fun ht => nomatch ht.1⟩

/-- Outside the decoder, the reverse lookup latch and the memory an access of the decoder leaves everything. -/
theorem decAccessed_keeps (s : State) : DecKeeps s (decAccessed s) := by
  unfold decAccessed
  repeat' split
  all_goals exact ⟨rfl, rfl, rfl, rfl, rfl, rfl, rfl⟩

/-- An access of the decoder changes at most the byte at its address. -/
theorem decAccessed_mem (s : State) :
    (decAccessed s).mem = s.mem ∨ ∃ v, (decAccessed s).mem = s.mem.set (decNext s) v := by
  unfold decAccessed decNext
  cases hp : s.dec.phase with
  | read1 => dsimp only; split <;> exact .inl rfl
  | read2 => dsimp only; split <;> exact .inl rfl
  | write1 => exact .inr ⟨_, rfl⟩
  | read3 => dsimp only; split <;> exact .inl rfl
  | read4 => dsimp only; repeat' split
             all_goals exact .inl rfl
  | write2 d => cases d <;> exact .inr ⟨_, rfl⟩
  | write3 v => exact .inr ⟨_, rfl⟩

end Sys2Proof.Machine
end

