-- ==== Sys2Proof/Laws/Select.lean ====
section
/-!
SUPPORT. What selecting a row can be, said once: the word of the decoder's next group (30_encoding.md R63), which agent steps (00_scope.md
R8), what a step is.
-/

namespace Sys2Proof.Machine

/-! ## The word of a group -/

/-- The four ways in which the fetched classes form a word, by the character that decides. -/
inductive GroupShape (s : State) : Byte → Prop where
  | first (x : CharClass) : CharAdmitted s 0 → charAt s 0 = x → isData x = false →
      GroupShape s (decActWord (classCode x) notFetched notFetched notFetched)
  | second (va : Sextet) (x : CharClass) : CharAdmitted s 0 → charAt s 0 = .data va → CharAdmitted s 1 → charAt s 1 = x →
      isData x = false → GroupShape s (decActWord (classCode (.data va)) (classCode x) notFetched notFetched)
  | third (va vb : Sextet) : BeginsWith s va vb → CharAdmitted (twoDone s va vb) 2 → charAt (twoDone s va vb) 2 = .notB64 →
      GroupShape s (decActWord (classCode (.data va)) (classCode (.data vb)) (classCode .notB64) notFetched)
  | fourth (va vb : Sextet) (x y : CharClass) : BeginsWith s va vb → CharAdmitted (twoDone s va vb) 2 →
      charAt (twoDone s va vb) 2 = x → isNotB64 x = false → CharAdmitted (twoDone s va vb) 3 → charAt (twoDone s va vb) 3 = y →
      GroupShape s (decActWord (classCode (.data va)) (classCode (.data vb)) (classCode x) (classCode y))

/-- The part of `decGroupWord` after two data characters. -/
theorem decGroupWord_begins {s : State} {va vb : Sextet} (h : BeginsWith s va vb) (ha : CharAdmitted (twoDone s va vb) 2) :
    decGroupWord s =
      if isNotB64 (charAt (twoDone s va vb) 2) then
        .ok (decActWord (classCode (.data va)) (classCode (.data vb)) (classCode (charAt (twoDone s va vb) 2)) notFetched)
      else
        fetch 3 (fetched 2 (charAt (twoDone s va vb) 2) (twoDone s va vb)) >>= fun u =>
          .ok (decActWord (classCode (.data va)) (classCode (.data vb)) (classCode (charAt (twoDone s va vb) 2))
            (classCode u.rlutOut)) := by
  obtain ⟨a0, h0, a1, h1, ad⟩ := h
  unfold decGroupWord
  rw [fetch_eq a0, ok_bind]
  simp only [fetched_rlutOut, h0]
  have a1' : CharAdmitted (shift va (fetched 0 (.data va) s)) 1 := a1
  have h1' : charAt (shift va (fetched 0 (.data va) s)) 1 = .data vb := h1
  rw [fetch_eq a1', ok_bind]
  simp only [fetched_rlutOut, h1']
  have e : emit1 (shift vb (fetched 1 (.data vb) (shift va (fetched 0 (.data va) s)))) = .ok (twoDone s va vb) :=
    emit1_ok.2 ⟨ad, rfl⟩
  rw [e, ok_bind, fetch_eq ha, ok_bind]
  rfl

theorem decGroupWord_first {s : State} (ha : CharAdmitted s 0) (h : isData (charAt s 0) = false) :
    decGroupWord s = .ok (decActWord (classCode (charAt s 0)) notFetched notFetched notFetched) := by
  unfold decGroupWord
  rw [fetch_eq ha, ok_bind]
  simp only [fetched_rlutOut]
  cases hx : charAt s 0 with
  | data v => rw [hx] at h; exact absurd h (by simp [isData])
  | pad => rfl
  | notB64 => rfl

theorem decGroupWord_second {s : State} {va : Sextet} (ha : CharAdmitted s 0) (h : charAt s 0 = .data va)
    (ha' : CharAdmitted s 1) (h' : isData (charAt s 1) = false) :
    decGroupWord s = .ok (decActWord (classCode (.data va)) (classCode (charAt s 1)) notFetched notFetched) := by
  unfold decGroupWord
  rw [fetch_eq ha, ok_bind]
  simp only [fetched_rlutOut, h]
  have a1' : CharAdmitted (shift va (fetched 0 (.data va) s)) 1 := ha'
  have h1' : charAt (shift va (fetched 0 (.data va) s)) 1 = charAt s 1 := rfl
  rw [fetch_eq a1', ok_bind]
  simp only [fetched_rlutOut, h1']
  cases hx : charAt s 1 with
  | data v => rw [hx] at h'; exact absurd h' (by simp [isData])
  | pad => rfl
  | notB64 => rfl

theorem decGroupWord_third {s : State} {va vb : Sextet} (h : BeginsWith s va vb) (ha : CharAdmitted (twoDone s va vb) 2)
    (hn : charAt (twoDone s va vb) 2 = .notB64) :
    decGroupWord s = .ok (decActWord (classCode (.data va)) (classCode (.data vb)) (classCode .notB64) notFetched) := by
  rw [decGroupWord_begins h ha, hn]
  rfl

theorem decGroupWord_fourth {s : State} {va vb : Sextet} (h : BeginsWith s va vb) (ha : CharAdmitted (twoDone s va vb) 2)
    (hn : isNotB64 (charAt (twoDone s va vb) 2) = false) (ha' : CharAdmitted (twoDone s va vb) 3) :
    decGroupWord s = .ok (decActWord (classCode (.data va)) (classCode (.data vb)) (classCode (charAt (twoDone s va vb) 2))
      (classCode (charAt (twoDone s va vb) 3))) := by
  rw [decGroupWord_begins h ha, if_neg (by rw [hn]; exact Bool.false_ne_true),
    fetch_eq (s := fetched 2 (charAt (twoDone s va vb) 2) (twoDone s va vb)) (k := 3) ha', ok_bind]
  rfl

/-- When the characters that decide can be fetched, the word is that of one of the four shapes. -/
theorem decGroupWord_ok {s : State} {w : Byte} (h : decGroupWord s = .ok w) : GroupShape s w := by
  have h0 := h
  unfold decGroupWord at h0
  obtain ⟨_, h1, h2⟩ := bind_ok.1 h0
  obtain ⟨a0, rfl⟩ := fetch_ok.1 h1
  change CharAdmitted s 0 at a0
  cases hx : charAt s 0 with
  | pad =>
    rw [decGroupWord_first a0 (by rw [hx]; rfl)] at h
    obtain rfl := Except.ok.inj h
    exact .first _ a0 rfl (by rw [hx]; rfl)
  | notB64 =>
    rw [decGroupWord_first a0 (by rw [hx]; rfl)] at h
    obtain rfl := Except.ok.inj h
    exact .first _ a0 rfl (by rw [hx]; rfl)
  | data va =>
    have hx' : classify (s.mem.get (s.addr s.dec.src 0)) = .data va := hx
    simp only [hx', fetched_rlutOut] at h2
    obtain ⟨_, h3, h4⟩ := bind_ok.1 h2
    obtain ⟨a1, rfl⟩ := fetch_ok.1 h3
    change CharAdmitted s 1 at a1
    cases hy : charAt s 1 with
    | pad =>
      rw [decGroupWord_second a0 hx a1 (by rw [hy]; rfl)] at h
      obtain rfl := Except.ok.inj h
      exact .second _ _ a0 hx a1 rfl (by rw [hy]; rfl)
    | notB64 =>
      rw [decGroupWord_second a0 hx a1 (by rw [hy]; rfl)] at h
      obtain rfl := Except.ok.inj h
      exact .second _ _ a0 hx a1 rfl (by rw [hy]; rfl)
    | data vb =>
      have hy' : classify (s.mem.get (s.addr s.dec.src 1)) = .data vb := hy
      simp only [fetched_rlutOut, fetched_mem, fetched_addr, fetched_dec, shift_mem, shift_addr, shift_dec, hy'] at h4
      obtain ⟨_, h5, h6⟩ := bind_ok.1 h4
      obtain ⟨ad, rfl⟩ := emit1_ok.1 h5
      obtain ⟨_, h7, -⟩ := bind_ok.1 h6
      obtain ⟨a2, -⟩ := fetch_ok.1 h7
      have hb : BeginsWith s va vb := ⟨a0, hx, a1, hy, ad⟩
      have a2' : CharAdmitted (twoDone s va vb) 2 := a2
      cases hn : isNotB64 (charAt (twoDone s va vb) 2) with
      | true =>
        have hn' := isNotB64_iff.1 hn
        rw [decGroupWord_third hb a2' hn'] at h
        obtain rfl := Except.ok.inj h
        exact .third va vb hb a2' hn'
      | false =>
        have h8 := h
        rw [decGroupWord_begins hb a2', if_neg (by rw [hn]; exact Bool.false_ne_true)] at h8
        obtain ⟨_, h9, -⟩ := bind_ok.1 h8
        obtain ⟨a3, -⟩ := fetch_ok.1 h9
        have a3' : CharAdmitted (twoDone s va vb) 3 := a3
        rw [decGroupWord_fourth hb a2' hn a3'] at h
        obtain rfl := Except.ok.inj h
        exact .fourth va vb _ _ hb a2' rfl hn a3' rfl

/-! ## Steps -/

/-- With nothing on the request channel and no reset, a step is the agents'. -/
theorem select_agents {s : State} (hr : s.io.rst = false) (hq : s.request = []) : select s = agentsStep s := by
  simp [select, hr, hq]

/-- A record on the request channel is what the next step runs, unless reset is asserted. -/
theorem select_request {s : State} (hr : s.io.rst = false) (hq : s.request ≠ []) : select s = requestStep s s.request := by
  unfold select
  rw [if_neg (by rw [hr]; exact Bool.false_ne_true)]
  split
  · next h => exact absurd h hq
  · rfl

/-- Reset has priority over everything (R114, R126). -/
theorem select_reset {s : State} (hr : s.io.rst = true) : select s = resetStep s := by
  simp [select, hr]

/-- A step of the agents is the step of one that can step, at most one free value drawn, or there is none. -/
theorem agentsStep_cases (s : State) :
    (enabled s = [] ∧ agentsStep s = nobodySteps s) ∨
      (∃ x ∈ enabled s, agentsStep s = agentStep s x) ∨
      ∃ x ∈ enabled s, agentsStep s = agentStep (s.withFreeIx (s.freeIx + 1)) x := by
  unfold agentsStep
  split
  · next h => exact .inl ⟨h, rfl⟩
  · next x h => exact .inr (.inl ⟨x, by rw [h]; exact List.mem_singleton_self x, rfl⟩)
  · next x y rest h =>
    refine .inr (.inr ⟨_, ?_, rfl⟩)
    rw [h, List.getD_eq_getElem (hn := by simpa using Nat.mod_lt _ (Nat.succ_pos _))]
    exact List.getElem_mem _

/-- An agent is stuck only at an address the memory does not admit. -/
theorem stuckAt_some {s : State} {x : Agent} {a : Nat} :
    stuckAt s x = some a ↔ hasWork s x = true ∧ nextAccess s x = some a ∧ s.plat.admits a = false := by
  unfold stuckAt
  split
  · next h => simp [h, Option.filter_eq_some_iff]
  · next h => simp [h]

theorem mem_enabled {s : State} {x : Agent} : x ∈ enabled s ↔ hasWork s x = true ∧ stuckAt s x = none := by
  unfold enabled canStep
  rw [List.mem_filter, Bool.and_eq_true, Option.isNone_iff_eq_none]
  exact ⟨fun h => h.2, fun h => ⟨by cases x <;> decide, h⟩⟩

/-- With nobody able to step, nothing happens, or the machine stops where an agent is stuck. -/
theorem nobodySteps_cases (s : State) :
    ((∀ x, stuckAt s x = none) ∧ nobodySteps s = .settled s) ∨
      ∃ x a, stuckAt s x = some a ∧ nobodySteps s = .stop (.fault (.unadmitted a)) := by
  unfold nobodySteps
  cases h : [Agent.host, .enc, .dec].findSome? (stuckAt s) with
  | none =>
    rw [List.findSome?_eq_none_iff] at h
    exact .inl ⟨fun x => h x (by cases x <;> decide), rfl⟩
  | some a =>
    obtain ⟨x, -, hx⟩ := List.exists_of_findSome?_eq_some h
    exact .inr ⟨x, a, hx, rfl⟩

/-- With one agent that can step, a step is its step. -/
theorem agentsStep_only {s : State} {x : Agent} (h : enabled s = [x]) : agentsStep s = agentStep s x := by
  unfold agentsStep
  rw [h]

/-- A row is run by `runWord` exactly when its word selects it in its format. -/
theorem runWord_run {s t : State} {f : Format} {w : Byte} {i : Instr} :
    runWord s f w = .run i t ↔ decodeAs f w = .ok i ∧ t = s := by
  unfold runWord
  split
  · next j h =>
    constructor
    · intro hr
      cases hr
      exact ⟨h, rfl⟩
    · rintro ⟨hj, rfl⟩
      rw [h] at hj
      cases hj
      rfl
  · next h =>
    constructor
    · intro hr
      cases hr
    · rintro ⟨hj, -⟩
      rw [h] at hj
      cases hj

theorem settle_ok {r : Res State} {t : State} : settle r = .settled t ↔ r = .ok t := by
  cases r with
  | error e => exact ⟨(fun h => nomatch h), fun h => nomatch h⟩
  | ok a => exact ⟨fun h => by cases h; rfl, fun h => by cases h; rfl⟩

theorem settle_ne_run {r : Res State} {i : Instr} {u : State} : settle r ≠ .run i u := by
  cases r <;> exact fun h => nomatch h

theorem runWord_ne_settled {s t : State} {f : Format} {w : Byte} : runWord s f w ≠ .settled t := by
  unfold runWord
  split <;> exact fun h => nomatch h

/-- What a selection leads to. -/
theorem step_selection {s t : State} (h : step s = .next t) :
    select s = .settled t ∨ ∃ i u, select s = .run i u ∧ exec i u = .next t := by
  unfold step at h
  split at h
  · next u hu => cases h; exact .inl hu
  · next r _ => rcases r with r | r <;> cases h
  · next i u hu => exact .inr ⟨i, u, hu, h⟩

theorem hostStep_ok {s t : State} (h : hostStep s = .ok t) :
    t = s ∨ ∃ m rest, s.script = m :: rest ∧ hostMove (s.withScript rest) m = .ok t := by
  unfold hostStep at h
  split at h
  · cases h; exact .inl rfl
  · next m rest hs => exact .inr ⟨m, rest, hs, h⟩

theorem hostMove_ok {s t : State} {m : HostMove} (h : hostMove s m = .ok t) :
    (∃ p, t = s.withIo p) ∨ ∃ a v, m = .store a v ∧ s.plat.admits a = true ∧ t = s.withMem (s.mem.set a v) := by
  cases m with
  | driveEnc start dest src size => cases h; exact .inl ⟨_, rfl⟩
  | driveDec start dest src => cases h; exact .inl ⟨_, rfl⟩
  | driveRst level => cases h; exact .inl ⟨_, rfl⟩
  | store a v => obtain ⟨ha, rfl⟩ := writeByte_ok.1 h; exact .inr ⟨a, v, rfl, ha, rfl⟩

/-- What the step of one agent can be: a move of the host, one access of a busy unit, or the acceptance of a command. -/
inductive AgentRun (s t : State) : Prop where
  | host : hostStep s = .ok t → AgentRun s t
  | encAccess : s.enc.busy = true → encAccess s = .ok t → AgentRun s t
  | encStart : s.enc.busy = false → exec .encStart s = .next t → AgentRun s t
  | decAccess : s.dec.busy = true → decAccess s = .ok t → AgentRun s t
  | decStart : s.dec.busy = false → exec .decStart s = .next t → AgentRun s t

theorem ctrlWord {f : Format} {start : Bool} {i : Instr} (hf : f = .ctrlEnc ∨ f = .ctrlDec)
    (h : decodeAs f (startWord start false) = .ok i) : i = if f = .ctrlEnc then .encStart else .decStart := by
  rcases hf with rfl | rfl <;> cases start <;> revert h <;> simp [decodeAs, decodeCtrlEnc, decodeCtrlDec, startWord, eq_comm]

/-- With a command on its ports and nothing to do, a unit's step is its start row (R71, R86). -/
theorem agentStep_encStart {s : State} (hb : s.enc.busy = false) (hs : s.io.encStart = true) :
    agentStep s .enc = .run .encStart s := by
  simp [agentStep, hb, hs, runWord, startWord, decodeAs, decodeCtrlEnc]

theorem agentStep_decStart {s : State} (hb : s.dec.busy = false) (hs : s.io.decStart = true) :
    agentStep s .dec = .run .decStart s := by
  simp [agentStep, hb, hs, runWord, startWord, decodeAs, decodeCtrlDec]

theorem agentStep_encBusy {s : State} (hb : s.enc.busy = true) : agentStep s .enc = settle (encAccess s) := by
  simp [agentStep, hb]

theorem agentStep_decBusy {s : State} (hb : s.dec.busy = true) : agentStep s .dec = settle (decAccess s) := by
  simp [agentStep, hb]

theorem agentStep_next {s t : State} {x : Agent}
    (h : agentStep s x = .settled t ∨ ∃ i u, agentStep s x = .run i u ∧ exec i u = .next t) : AgentRun s t := by
  cases x with
  | host =>
    rcases h with h | ⟨i, u, h, -⟩
    · exact .host (settle_ok.1 h)
    · exact absurd h settle_ne_run
  | enc =>
    cases hb : s.enc.busy with
    | true =>
      rw [agentStep_encBusy hb] at h
      rcases h with h | ⟨i, u, h, -⟩
      · exact .encAccess hb (settle_ok.1 h)
      · exact absurd h settle_ne_run
    | false =>
      have e : agentStep s .enc = runWord s .ctrlEnc (startWord s.io.encStart false) := by simp [agentStep, hb]
      rw [e] at h
      rcases h with h | ⟨i, u, h, ht⟩
      · exact absurd h runWord_ne_settled
      · obtain ⟨hi, rfl⟩ := runWord_run.1 h
        obtain rfl := ctrlWord (.inl rfl) hi
        exact .encStart hb ht
  | dec =>
    cases hb : s.dec.busy with
    | true =>
      rw [agentStep_decBusy hb] at h
      rcases h with h | ⟨i, u, h, -⟩
      · exact .decAccess hb (settle_ok.1 h)
      · exact absurd h settle_ne_run
    | false =>
      have e : agentStep s .dec = runWord s .ctrlDec (startWord s.io.decStart false) := by simp [agentStep, hb]
      rw [e] at h
      rcases h with h | ⟨i, u, h, ht⟩
      · exact absurd h runWord_ne_settled
      · obtain ⟨hi, rfl⟩ := runWord_run.1 h
        obtain rfl := ctrlWord (.inr rfl) hi
        exact .decStart hb ht

/-- A step while `rst = 1` is the reset event, and the host's next move where it can make one. -/
theorem resetStep_next {s : State} :
    ∃ t, resetStep s = .settled t ∧ (t = forceReset s ∨ hostStep (forceReset s) = .ok t) := by
  unfold resetStep
  split
  · next h =>
    rw [canStep, Bool.and_eq_true, Option.isNone_iff_eq_none] at h
    have hok : ∃ t, hostStep (forceReset s) = .ok t := by
      unfold hostStep
      have hs : (forceReset s).script = s.script := rfl
      rw [hs]
      cases hsc : s.script with
      | nil => exact ⟨_, rfl⟩
      | cons m rest =>
        cases m with
        | driveEnc => exact ⟨_, rfl⟩
        | driveDec => exact ⟨_, rfl⟩
        | driveRst => exact ⟨_, rfl⟩
        | store a v =>
          have ha : s.plat.admits a = true := by
            by_contra hc
            have := stuckAt_some.2 ⟨h.1, (by simp [nextAccess, hsc] : nextAccess s .host = some a), by simpa using hc⟩
            rw [h.2] at this
            cases this
          exact ⟨_, writeByte_ok.2 ⟨ha, rfl⟩⟩
    obtain ⟨t, ht⟩ := hok
    exact ⟨t, settle_ok.2 ht, .inr ht⟩
  · exact ⟨_, rfl, .inl rfl⟩

/-- What a step that answers can be. -/
inductive StepRun (s t : State) : Prop where
  /-- the reset event, and perhaps the host's next move -/
  | reset : s.io.rst = true → (t = forceReset s ∨ hostStep (forceReset s) = .ok t) → StepRun s t
  /-- the row the request channel names -/
  | request (i : Instr) : s.io.rst = false → s.request ≠ [] → exec i (s.withRequest []) = .next t → StepRun s t
  /-- nothing to do -/
  | idle : s.io.rst = false → s.request = [] → t = s → StepRun s t
  /-- one agent, some free values drawn -/
  | agent (k : Nat) : s.io.rst = false → s.request = [] → AgentRun (s.withFreeIx k) t → StepRun s t

/-- Every step that answers is one of these. -/
theorem step_next {s t : State} (h : step s = .next t) : StepRun s t := by
  have h := step_selection h
  cases hr : s.io.rst with
  | true =>
    rw [select_reset hr] at h
    obtain ⟨u, hu, hu'⟩ := resetStep_next (s := s)
    rw [hu] at h
    rcases h with h | ⟨i, u, h, -⟩
    · cases h; exact .reset hr hu'
    · cases h
  | false =>
    by_cases hq : s.request = []
    · rw [select_agents hr hq] at h
      rcases agentsStep_cases s with ⟨-, h'⟩ | ⟨x, -, h'⟩ | ⟨x, -, h'⟩
      · rw [h'] at h
        rcases nobodySteps_cases s with ⟨-, h''⟩ | ⟨x, a, -, h''⟩
        · rw [h''] at h
          rcases h with h | ⟨i, u, h, -⟩
          · cases h; exact .idle hr hq rfl
          · cases h
        · rw [h''] at h
          rcases h with h | ⟨i, u, h, -⟩ <;> cases h
      · rw [h'] at h
        exact .agent s.freeIx hr hq (agentStep_next h)
      · rw [h'] at h
        exact .agent (s.freeIx + 1) hr hq (agentStep_next h)
    · rw [select_request hr hq] at h
      unfold requestStep at h
      split at h
      · next i rest hd =>
        rcases h with h | ⟨j, u, h, ht⟩
        · cases h
        · cases h; exact .request i hr hq ht
      · rcases h with h | ⟨i, u, h, -⟩ <;> cases h

end Sys2Proof.Machine
end

