-- ==== Sys2Proof/Laws/Agree.lean ====
section
/-!
SUPPORT. What links the function level to the step level (00_scope.md R7; 41_decoder.md R106), and the bytes of a run of memory.
-/

namespace Sys2Proof.Machine

/-! ## A pass and its action -/

/-- The action of a pass is the one the group's own word selects (30_encoding.md R63). -/
theorem GroupPass.selected {s t : State} {b : Bool} (h : GroupPass s t b) :
    ∃ w i, decGroupWord s = .ok w ∧ decodeAs .decAct w = .ok i ∧ (s.dec.busy = true → s.dec.phase = .read1 → exec i s = .next t) := by
  have wb : ∀ {b : State → Res State}, b s = .ok t → s.dec.busy = true → s.dec.phase = .read1 →
      answer (whenDecBusy s b) = .next t := by
    intro b h hb hp; rw [whenDecBusy_busy _ hb hp, h]; rfl
  cases h with
  | end0 h =>
    obtain ⟨a, d, -⟩ := decEnd0_ok.1 h
    refine ⟨_, .decEnd0, decGroupWord_first a d, ?_, wb h⟩
    revert d; cases charAt s 0 <;> intro d
    · cases d
    · rfl
    · rfl
  | failB h =>
    obtain ⟨va, a, v, a1, d, -⟩ := decFailB_ok.1 h
    refine ⟨_, .decFailB, decGroupWord_second a v a1 d, ?_, wb h⟩
    rw [classCode_data]
    revert d; cases charAt s 1 <;> intro d
    · cases d
    · rfl
    · rfl
  | failC h =>
    obtain ⟨va, vb, hb, a, d, -⟩ := decFailC_ok.1 h
    refine ⟨_, .decFailC, decGroupWord_third hb a d, ?_, wb h⟩
    rw [classCode_data, classCode_data]; rfl
  | failD h =>
    obtain ⟨va, vb, vc, hb, a, d, -⟩ := decFailD_ok.1 h
    have a' : CharAdmitted (twoDone s va vb) 3 := a
    have d' : charAt (twoDone s va vb) 3 = .notB64 := d
    refine ⟨_, .decFailD, decGroupWord_fourth hb.1 hb.2.1 (by rw [hb.2.2]; rfl) a', ?_, wb h⟩
    rw [hb.2.2, d', classCode_data, classCode_data, classCode_data]; rfl
  | failDP h =>
    obtain ⟨va, vb, hb, a, d, -⟩ := decFailDP_ok.1 h
    have a' : CharAdmitted (twoDone s va vb) 3 := a
    have d' : charAt (twoDone s va vb) 3 = .notB64 := isNotB64_iff.1 d
    refine ⟨_, .decFailDP, decGroupWord_fourth hb.1 hb.2.1 (by rw [hb.2.2]; rfl) a', ?_, wb h⟩
    rw [hb.2.2, d', classCode_data, classCode_data]; rfl
  | failPD h =>
    obtain ⟨va, vb, hb, a, d, -⟩ := decFailPD_ok.1 h
    have a' : CharAdmitted (twoDone s va vb) 3 := a
    obtain ⟨vd, d'⟩ := isData_iff.1 d
    have d' : charAt (twoDone s va vb) 3 = .data vd := d'
    refine ⟨_, .decFailPD, decGroupWord_fourth hb.1 hb.2.1 (by rw [hb.2.2]; rfl) a', ?_, wb h⟩
    rw [hb.2.2, d', classCode_data, classCode_data, classCode_data]; rfl
  | end1 h =>
    obtain ⟨va, vb, hb, a, d, -⟩ := decEnd1_ok.1 h
    have a' : CharAdmitted (twoDone s va vb) 3 := a
    have d' : charAt (twoDone s va vb) 3 = .pad := isPad_iff.1 d
    refine ⟨_, .decEnd1, decGroupWord_fourth hb.1 hb.2.1 (by rw [hb.2.2]; rfl) a', ?_, wb h⟩
    rw [hb.2.2, d', classCode_data, classCode_data]; rfl
  | end2 h =>
    obtain ⟨va, vb, vc, hb, a, d, -, -⟩ := decEnd2_ok.1 h
    have a' : CharAdmitted (twoDone s va vb) 3 := a
    have d' : charAt (twoDone s va vb) 3 = .pad := d
    refine ⟨_, .decEnd2, decGroupWord_fourth hb.1 hb.2.1 (by rw [hb.2.2]; rfl) a', ?_, wb h⟩
    rw [hb.2.2, d', classCode_data, classCode_data, classCode_data]; rfl
  | full h =>
    obtain ⟨va, vb, vc, vd, hb, a, d, -, -⟩ := decFull_ok.1 h
    have a' : CharAdmitted (twoDone s va vb) 3 := a
    have d' : charAt (twoDone s va vb) 3 = .data vd := d
    refine ⟨_, .decFull, decGroupWord_fourth hb.1 hb.2.1 (by rw [hb.2.2]; rfl) a', ?_, wb h⟩
    rw [hb.2.2, d', classCode_data, classCode_data, classCode_data, classCode_data]; rfl

/-- Only a full group leaves the decoder busy. -/
theorem GroupPass.busy_after {s t : State} {b : Bool} (h : GroupPass s t b) (hb : s.dec.busy = true) : t.dec.busy = b := by
  cases h with
  | end0 h => obtain ⟨-, -, rfl⟩ := decEnd0_ok.1 h; rfl
  | failB h => obtain ⟨_, -, -, -, -, rfl⟩ := decFailB_ok.1 h; rfl
  | failC h => obtain ⟨_, _, -, -, -, rfl⟩ := decFailC_ok.1 h; rfl
  | failD h => obtain ⟨_, _, _, -, -, -, rfl⟩ := decFailD_ok.1 h; rfl
  | failDP h => obtain ⟨_, _, -, -, -, rfl⟩ := decFailDP_ok.1 h; rfl
  | failPD h => obtain ⟨_, _, -, -, -, rfl⟩ := decFailPD_ok.1 h; rfl
  | end1 h => obtain ⟨_, _, -, -, -, rfl⟩ := decEnd1_ok.1 h; rfl
  | end2 h => obtain ⟨_, _, _, -, -, -, -, rfl⟩ := decEnd2_ok.1 h; rfl
  | full h => obtain ⟨_, _, _, _, -, -, -, -, -, rfl⟩ := decFull_ok.1 h; simp [byte3Done, byte2Done, threeDone, hb]

/-! ## Bytes in a row -/

theorem bytesAt_length (m : Memory) (a n : Nat) : (bytesAt m a n).length = n := by
  induction n generalizing a with
  | zero => rfl
  | succ n ih => simp [bytesAt, ih]

theorem bytesAt_congr {m m' : Memory} {a n : Nat} (h : ∀ k < n, m.get (a + k) = m'.get (a + k)) :
    bytesAt m a n = bytesAt m' a n := by
  induction n generalizing a with
  | zero => rfl
  | succ n ih =>
    have h0 : m.get a = m'.get a := h 0 (Nat.succ_pos n)
    simp only [bytesAt]
    rw [h0, ih]
    intro k hk
    have := h (k + 1) (by omega)
    rwa [show a + (k + 1) = a + 1 + k by omega] at this

theorem bytesAt_add (m : Memory) (a n k : Nat) : bytesAt m a (n + k) = bytesAt m a n ++ bytesAt m (a + n) k := by
  induction n generalizing a with
  | zero => simp [bytesAt]
  | succ n ih =>
    rw [show n + 1 + k = (n + k) + 1 by omega]
    simp only [bytesAt, ih, List.cons_append]
    rw [show a + 1 + n = a + (n + 1) by omega]

theorem bytesAt_getElem? (m : Memory) (a n k : Nat) :
    (bytesAt m a n)[k]? = if k < n then some (m.get (a + k)) else none := by
  induction n generalizing a k with
  | zero => simp [bytesAt]
  | succ n ih =>
    cases k with
    | zero => simp [bytesAt]
    | succ k =>
      simp only [bytesAt, List.getElem?_cons_succ, ih, Nat.add_lt_add_iff_right]
      rw [show a + 1 + k = a + (k + 1) by omega]

/-! ## Accesses in a row -/

/-- `n` accesses of the encoder one after the other, each of them admitted, in states in which it is busy. -/
inductive EncChain : Nat → State → State → Prop where
  | nil (s : State) : EncChain 0 s s
  | cons {n : Nat} {s t : State} : s.enc.busy = true → s.plat.admits (encNext s) = true → EncChain n (encAccessed s) t →
      EncChain (n + 1) s t

/-- `n` accesses of the decoder one after the other. -/
inductive DecChain : Nat → State → State → Prop where
  | nil (s : State) : DecChain 0 s s
  | cons {n : Nat} {s t : State} : s.dec.busy = true → s.plat.admits (decNext s) = true → DecChain n (decAccessed s) t →
      DecChain (n + 1) s t

theorem EncChain.append {m n : Nat} {s t u : State} (h : EncChain m s t) (h' : EncChain n t u) : EncChain (m + n) s u := by
  induction h with
  | nil => simpa using h'
  | @cons k s t hb ha _ ih => rw [show k + 1 + n = k + n + 1 by omega]; exact .cons hb ha (ih h')

theorem DecChain.append {m n : Nat} {s t u : State} (h : DecChain m s t) (h' : DecChain n t u) : DecChain (m + n) s u := by
  induction h with
  | nil => simpa using h'
  | @cons k s t hb ha _ ih => rw [show k + 1 + n = k + n + 1 by omega]; exact .cons hb ha (ih h')

theorem encGoOn_same {s : State} (h : s.enc.phase = .read1) : encGoOn .read1 s = s := by
  obtain ⟨plat, ⟨src, dst, rem, g, busy, done, endAddr, phase, bufs⟩, dec, io, mem, ao, ro, rq, sc, ix⟩ := s
  obtain rfl : phase = .read1 := h
  rfl

@[simp] theorem encGoOn_phase (p : EncPhase) (s : State) : (encGoOn p s).enc.phase = p := rfl
@[simp] theorem encGoOn_rem (p : EncPhase) (s : State) : (encGoOn p s).enc.rem = s.enc.rem := rfl

/-- One access more, from where the group stands. -/
theorem EncChain.step {p : EncPhase} {u w t : State} {n : Nat} (hb : u.enc.busy = true)
    (ha : u.plat.admits (encNext (encGoOn p u)) = true) (e : encAccessed (encGoOn p u) = w) (h : EncChain n w t) :
    EncChain (n + 1) (encGoOn p u) t :=
  .cons hb ha (e ▸ h)

theorem encAccessed_first {u : State} (h : 2 ≤ u.enc.rem) :
    encAccessed (encGoOn .read1 u) = encGoOn (.read2 (u.mem.get u.enc.src)) u := by
  simp only [encAccessed, encGoOn_phase]
  rw [if_neg (show ¬(encGoOn .read1 u).enc.rem = 0 by simp; omega), if_neg (show ¬(encGoOn .read1 u).enc.rem = 1 by simp; omega)]
  rfl

theorem encAccessed_second {u : State} {a : Byte} (h : 3 ≤ u.enc.rem) :
    encAccessed (encGoOn (.read2 a) u) = encGoOn (.read3 a (u.mem.get (u.addr u.enc.src 1))) u := by
  simp only [encAccessed, encGoOn_phase]
  rw [if_neg (show ¬(encGoOn (.read2 a) u).enc.rem = 2 by simp; omega)]
  rfl

theorem encAccessed_third (u : State) (a b : Byte) :
    encAccessed (encGoOn (.read3 a b) u) =
      encGoOn .write1 (setGroup u (joinBytes a b (u.mem.get (u.addr u.enc.src 2)))) := rfl

theorem encAccessed_char0 (u : State) :
    encAccessed (encGoOn .write1 u) = encGoOn .write2 (sextetWritten u u.enc.dst (sextet0 u.enc.g)) := rfl

theorem encAccessed_char1 (u : State) :
    encAccessed (encGoOn .write2 u) = encGoOn .write3 (sextetWritten u (u.addr u.enc.dst 1) (sextet1 u.enc.g)) := rfl

theorem encAccessed_char2 {u : State} (h : 2 ≤ u.enc.rem) :
    encAccessed (encGoOn .write3 u) = encGoOn .write4 (sextetWritten u (u.addr u.enc.dst 2) (sextet2 u.enc.g)) := by
  simp only [encAccessed, encGoOn_phase, lateWritten]
  rw [if_pos (show 2 ≤ (encGoOn .write3 u).enc.rem from h)]
  rfl

theorem encAccessed_char3 {u : State} (h : 3 ≤ u.enc.rem) :
    encAccessed (encGoOn .write4 u) =
      encGoOn .read1 (encAdvance (sextetWritten u (u.addr u.enc.dst 3) (sextet3 u.enc.g)) 3 (u.enc.rem - 3)) := by
  have hm : encM u.enc = 3 := Nat.min_eq_right h
  have hm' : encM (encGoOn .write4 u).enc = 3 := hm
  simp only [encAccessed, encGoOn_phase, lateWritten, hm']
  rw [if_pos (show 3 ≤ (encGoOn .write4 u).enc.rem from h)]
  rfl

/-- The group is over: the phase that its last access leaves is the one it began with. -/
theorem EncChain.over {s : State} (h : s.enc.phase = .read1) : EncChain 0 (encGoOn .read1 s) s := by
  rw [encGoOn_same h]; exact .nil _

/-- A full group is seven accesses (R72). -/
theorem encGroup_chain {s t : State} (hb : s.enc.busy = true) (hp : s.enc.phase = .read1) (hr : 3 ≤ s.enc.rem)
    (h : encGroup s = .ok t) : EncChain 7 s t := by
  obtain ⟨⟨a0, a1, a2⟩, ⟨w0, w1, w2, w3⟩, rfl⟩ := encGroup_ok.1 h
  conv => lhs; rw [← encGoOn_same hp]
  have a0' : s.plat.admits (encNext (encGoOn .read1 s)) = true := by
    simp only [encNext, encGoOn_phase]
    rw [if_neg (show ¬(encGoOn .read1 s).enc.rem = 0 by simp; omega)]
    exact a0
  exact .step hb a0' (encAccessed_first (by omega)) (.step hb a1 (encAccessed_second hr)
    (.step hb a2 (encAccessed_third _ _ _) (.step hb w0 (encAccessed_char0 _) (.step hb w1 (encAccessed_char1 _)
      (.step hb w2 (encAccessed_char2 (by exact Nat.le_trans (by decide) hr)) (.step hb w3 (encAccessed_char3 hr) (.over hp)))))))

/-- A tail of two bytes is six accesses (R73). -/
theorem encTail2_chain {s t : State} (hb : s.enc.busy = true) (hp : s.enc.phase = .read1) (hr : s.enc.rem = 2)
    (h : encTail2 s = .ok t) : EncChain 6 s t := by
  obtain ⟨⟨a0, a1⟩, ⟨w0, w1, w2, w3⟩, rfl⟩ := encTail2_ok.1 h
  obtain ⟨plat, ⟨src, dst, rem, g, busy, done, endAddr, phase, bufs⟩, dec, io, mem, ao, ro, rq, sc, ix⟩ := s
  obtain rfl : phase = .read1 := hp
  obtain rfl : rem = 2 := hr
  exact .cons hb a0 (.cons hb a1 (.cons hb w0 (.cons hb w1 (.cons hb w2 (.cons hb w3 (.nil _))))))

/-- A tail of one byte is five accesses (R74). -/
theorem encTail1_chain {s t : State} (hb : s.enc.busy = true) (hp : s.enc.phase = .read1) (hr : s.enc.rem = 1)
    (h : encTail1 s = .ok t) : EncChain 5 s t := by
  obtain ⟨a0, ⟨w0, w1, w2, w3⟩, rfl⟩ := encTail1_ok.1 h
  obtain ⟨plat, ⟨src, dst, rem, g, busy, done, endAddr, phase, bufs⟩, dec, io, mem, ao, ro, rq, sc, ix⟩ := s
  obtain rfl : phase = .read1 := hp
  obtain rfl : rem = 1 := hr
  exact .cons hb a0 (.cons hb w0 (.cons hb w1 (.cons hb w2 (.cons hb w3 (.nil _)))))

/-- The terminator is one access (R75). -/
theorem encFinish_chain {s t : State} (hb : s.enc.busy = true) (hp : s.enc.phase = .read1) (hr : s.enc.rem = 0)
    (h : encFinish s = .ok t) : EncChain 1 s t := by
  obtain ⟨w0, rfl⟩ := encFinish_ok.1 h
  obtain ⟨plat, ⟨src, dst, rem, g, busy, done, endAddr, phase, bufs⟩, dec, io, mem, ao, ro, rq, sc, ix⟩ := s
  obtain rfl : phase = .read1 := hp
  obtain rfl : rem = 0 := hr
  exact .cons hb w0 (.nil _)

@[simp] theorem decGoOn_phase (p : DecPhase) (s : State) : (decGoOn p s).dec.phase = p := rfl
@[simp] theorem decGoOn_cpad (p : DecPhase) (s : State) : (decGoOn p s).dec.cpad = s.dec.cpad := rfl
@[simp] theorem decGoOn_charAt (p : DecPhase) (s : State) (k : Nat) : charAt (decGoOn p s) k = charAt s k := rfl

theorem decGoOn_same {s : State} (h : s.dec.phase = .read1) : decGoOn .read1 s = s := by
  obtain ⟨plat, enc, ⟨src, dst, sh, k, cpad, busy, done, fail, endAddr, phase, bufs⟩, io, mem, ao, ro, rq, sc, ix⟩ := s
  obtain rfl : phase = .read1 := h
  rfl

/-- One access more, from where the group stands. -/
theorem DecChain.step {p : DecPhase} {u w t : State} {n : Nat} (hb : u.dec.busy = true)
    (ha : u.plat.admits (decNext (decGoOn p u)) = true) (e : decAccessed (decGoOn p u) = w) (h : DecChain n w t) :
    DecChain (n + 1) (decGoOn p u) t :=
  .cons hb ha (e ▸ h)

theorem decAccessed_data0 {u : State} {v : Sextet} (h : charAt u 0 = .data v) :
    decAccessed (decGoOn .read1 u) = decGoOn .read2 (shift v (fetched 0 (.data v) u)) := by
  simp only [decAccessed, decGoOn_phase, decGoOn_charAt, h]; rfl

theorem decAccessed_data1 {u : State} {v : Sextet} (h : charAt u 1 = .data v) :
    decAccessed (decGoOn .read2 u) = decGoOn .write1 (shift v (fetched 1 (.data v) u)) := by
  simp only [decAccessed, decGoOn_phase, decGoOn_charAt, h]; rfl

theorem decAccessed_fail1 {u : State} (h : isData (charAt u 1) = false) :
    decAccessed (decGoOn .read2 u) = decGoOn .read1 (raiseMalformed (fetched 1 (charAt u 1) u)) := by
  simp only [decAccessed, decGoOn_phase, decGoOn_charAt]
  revert h
  cases charAt u 1 <;> intro h
  · cases h
  · rfl
  · rfl

theorem decAccessed_byte1 (u : State) :
    decAccessed (decGoOn .write1 u) = decGoOn .read3 (dstAdvanced (u.withMem (u.mem.set u.dec.dst (byte1 u.dec.sh)))) := rfl

theorem decAccessed_data2 {u : State} {v : Sextet} (h : charAt u 2 = .data v) :
    decAccessed (decGoOn .read3 u) = decGoOn .read4 (shift v (fetched 2 (.data v) u)) := by
  simp only [decAccessed, decGoOn_phase, decGoOn_charAt, h]; rfl

theorem decAccessed_pad2 {u : State} (h : charAt u 2 = .pad) :
    decAccessed (decGoOn .read3 u) = decGoOn .read4 (fetched 2 .pad u) := by
  simp only [decAccessed, decGoOn_phase, decGoOn_charAt, h]; rfl

theorem decAccessed_fail2 {u : State} (h : charAt u 2 = .notB64) :
    decAccessed (decGoOn .read3 u) = decGoOn .read1 (raiseMalformed (fetched 2 .notB64 u)) := by
  simp only [decAccessed, decGoOn_phase, decGoOn_charAt, h]; rfl

/-- The fourth access of a group whose third character is `=`. -/
theorem decAccessed_afterPad {u : State} (h : u.dec.cpad = true) :
    decAccessed (decGoOn .read4 u) =
      decGoOn .read1 (if isPad (charAt u 3) then finishOk (fetched 3 (charAt u 3) u) else raiseMalformed (fetched 3 (charAt u 3) u)) := by
  simp only [decAccessed, decGoOn_phase, decGoOn_charAt, decGoOn_cpad, h, if_true]
  cases charAt u 3 <;> rfl

theorem decAccessed_data3 {u : State} {v : Sextet} (hp : u.dec.cpad = false) (h : charAt u 3 = .data v) :
    decAccessed (decGoOn .read4 u) = decGoOn (.write2 (some v)) (fetched 3 (.data v) u) := by
  simp only [decAccessed, decGoOn_phase, decGoOn_charAt, decGoOn_cpad, hp, h]; rfl

theorem decAccessed_pad3 {u : State} (hp : u.dec.cpad = false) (h : charAt u 3 = .pad) :
    decAccessed (decGoOn .read4 u) = decGoOn (.write2 none) (fetched 3 .pad u) := by
  simp only [decAccessed, decGoOn_phase, decGoOn_charAt, decGoOn_cpad, hp, h]; rfl

theorem decAccessed_fail3 {u : State} (h : charAt u 3 = .notB64) :
    decAccessed (decGoOn .read4 u) = decGoOn .read1 (raiseMalformed (fetched 3 .notB64 u)) := by
  simp only [decAccessed, decGoOn_phase, decGoOn_charAt, h]; rfl

/-- The second byte of a group whose fourth character is `=` is the group's last access (R98). -/
theorem decAccessed_write2 (u : State) : decAccessed (decGoOn (.write2 none) u) = decGoOn .read1 (finishOk (byte2Done u)) := rfl

/-- After the second byte of a full group comes the third (R99). -/
theorem decAccessed_write2_some (v : Sextet) (u : State) :
    decAccessed (decGoOn (.write2 (some v)) u) = decGoOn (.write3 v) (byte2Done u) := rfl

theorem decAccessed_write3 (v : Sextet) (u : State) :
    decAccessed (decGoOn (.write3 v) u) = decGoOn .read1 (byte3Done (shift v u)) := rfl

/-- The group is over: the phase that its last access leaves is the one it began with. -/
theorem DecChain.over {s : State} (h : s.dec.phase = .read1) : DecChain 0 (decGoOn .read1 s) s := by
  rw [decGoOn_same h]; exact .nil _

/-- The three accesses of a group that begins with two data characters, up to the third fetch. -/
theorem begins_chain {s : State} {va vb : Sextet} (hb : s.dec.busy = true) (hp : s.dec.phase = .read1)
    (h : BeginsWith s va vb) : DecChain 3 s (decGoOn .read3 (twoDone s va vb)) := by
  obtain ⟨a0, h0, a1, h1, ad⟩ := h
  conv => lhs; rw [← decGoOn_same hp]
  refine .step hb a0 (decAccessed_data0 h0) (.step hb a1 (decAccessed_data1 h1) (.step hb ad (decAccessed_byte1 _) ?_))
  exact .nil _

theorem twoPad_chain {s : State} {va vb : Sextet} (hb : s.dec.busy = true) (hp : s.dec.phase = .read1)
    (h : BeginsWithTwoPad s va vb) : DecChain 4 s (decGoOn .read4 (fetched 2 .pad (twoDone s va vb))) :=
  (begins_chain hb hp h.1).append (n := 1) (.step hb h.2.1 (decAccessed_pad2 h.2.2) (.nil _))

theorem three_chain {s : State} {va vb vc : Sextet} (hb : s.dec.busy = true) (hp : s.dec.phase = .read1)
    (h : BeginsWithThree s va vb vc) : DecChain 4 s (decGoOn .read4 (threeDone s va vb vc)) :=
  (begins_chain hb hp h.1).append (n := 1) (.step hb h.2.1 (decAccessed_data2 h.2.2) (.nil _))

theorem decEnd0_chain {s t : State} (hb : s.dec.busy = true) (hp : s.dec.phase = .read1) (h : decEnd0 s = .ok t) :
    DecChain 1 s t := by
  obtain ⟨a0, d, rfl⟩ := decEnd0_ok.1 h
  have e : decAccessed s = finishOk (fetched 0 (charAt s 0) s) := by
    simp only [decAccessed, hp]
    revert d
    cases charAt s 0 <;> intro d
    · cases d
    · rfl
    · rfl
  refine .cons hb ?_ (e ▸ .nil _)
  simp only [decNext, hp]
  exact a0

theorem decFailB_chain {s t : State} (hb : s.dec.busy = true) (hp : s.dec.phase = .read1) (h : decFailB s = .ok t) :
    DecChain 2 s t := by
  obtain ⟨va, a0, h0, a1, d, rfl⟩ := decFailB_ok.1 h
  conv => lhs; rw [← decGoOn_same hp]
  exact .step hb a0 (decAccessed_data0 h0) (.step hb a1 (decAccessed_fail1 d) (.over hp))

theorem decFailC_chain {s t : State} (hb : s.dec.busy = true) (hp : s.dec.phase = .read1) (h : decFailC s = .ok t) :
    DecChain 4 s t := by
  obtain ⟨va, vb, hw, a2, hc, rfl⟩ := decFailC_ok.1 h
  exact (begins_chain hb hp hw).append (n := 1) (.step hb a2 (decAccessed_fail2 hc) (.over hp))

theorem decFailDP_chain {s t : State} (hb : s.dec.busy = true) (hp : s.dec.phase = .read1) (h : decFailDP s = .ok t) :
    DecChain 5 s t := by
  obtain ⟨va, vb, hw, a3, hd, rfl⟩ := decFailDP_ok.1 h
  refine (twoPad_chain hb hp hw).append (n := 1) (.step hb a3 (decAccessed_fail3 (isNotB64_iff.1 hd)) ?_)
  rw [isNotB64_iff.1 hd]
  exact .over hp

theorem decFailPD_chain {s t : State} (hb : s.dec.busy = true) (hp : s.dec.phase = .read1) (h : decFailPD s = .ok t) :
    DecChain 5 s t := by
  obtain ⟨va, vb, hw, a3, hd, rfl⟩ := decFailPD_ok.1 h
  obtain ⟨vd, hd⟩ := isData_iff.1 hd
  refine (twoPad_chain hb hp hw).append (n := 1) (.step hb a3 (decAccessed_afterPad rfl) ?_)
  rw [hd]
  exact .over hp

theorem decEnd1_chain {s t : State} (hb : s.dec.busy = true) (hp : s.dec.phase = .read1) (h : decEnd1 s = .ok t) :
    DecChain 5 s t := by
  obtain ⟨va, vb, hw, a3, hd, rfl⟩ := decEnd1_ok.1 h
  refine (twoPad_chain hb hp hw).append (n := 1) (.step hb a3 (decAccessed_afterPad rfl) ?_)
  rw [isPad_iff.1 hd]
  exact .over hp

theorem decFailD_chain {s t : State} (hb : s.dec.busy = true) (hp : s.dec.phase = .read1) (h : decFailD s = .ok t) :
    DecChain 5 s t := by
  obtain ⟨va, vb, vc, hw, a3, hd, rfl⟩ := decFailD_ok.1 h
  exact (three_chain hb hp hw).append (n := 1) (.step hb a3 (decAccessed_fail3 hd) (.over hp))

theorem decEnd2_chain {s t : State} (hb : s.dec.busy = true) (hp : s.dec.phase = .read1) (h : decEnd2 s = .ok t) :
    DecChain 6 s t := by
  obtain ⟨va, vb, vc, hw, a3, hd, w2, rfl⟩ := decEnd2_ok.1 h
  exact (three_chain hb hp hw).append (n := 2)
    (.step hb a3 (decAccessed_pad3 rfl hd) (.step hb w2 (decAccessed_write2 _) (.over hp)))

theorem decFull_chain {s t : State} (hb : s.dec.busy = true) (hp : s.dec.phase = .read1) (h : decFull s = .ok t) :
    DecChain 7 s t := by
  obtain ⟨va, vb, vc, vd, hw, a3, hd, w2, w3, rfl⟩ := decFull_ok.1 h
  exact (three_chain hb hp hw).append (n := 3) (.step hb a3 (decAccessed_data3 rfl hd)
    (.step hb w2 (decAccessed_write2_some _ _) (.step hb w3 (decAccessed_write3 _ _) (.over hp))))

/-- A pass is a chain of accesses of the decoder (R106). -/
theorem GroupPass.chain {s t : State} {b : Bool} (h : GroupPass s t b) (hb : s.dec.busy = true) (hp : s.dec.phase = .read1) :
    ∃ n, DecChain n s t := by
  cases h with
  | end0 h => exact ⟨_, decEnd0_chain hb hp h⟩
  | failB h => exact ⟨_, decFailB_chain hb hp h⟩
  | failC h => exact ⟨_, decFailC_chain hb hp h⟩
  | failD h => exact ⟨_, decFailD_chain hb hp h⟩
  | failDP h => exact ⟨_, decFailDP_chain hb hp h⟩
  | failPD h => exact ⟨_, decFailPD_chain hb hp h⟩
  | end1 h => exact ⟨_, decEnd1_chain hb hp h⟩
  | end2 h => exact ⟨_, decEnd2_chain hb hp h⟩
  | full h => exact ⟨_, decFull_chain hb hp h⟩

/-! ## Accesses as steps -/

theorem runUnit_idle {x : Agent} {n : Nat} {s : State} (h : unitBusy s x = false) : runUnit x n s = .next s := by
  cases n with
  | zero => rfl
  | succ n => simp [runUnit, h]

/-- A chain of accesses is what the encoder by itself does. -/
theorem EncChain.runUnit {n k : Nat} {s t : State} (h : EncChain n s t) : runUnit .enc (n + k) s = runUnit .enc k t := by
  induction h with
  | nil => rw [Nat.zero_add]
  | @cons n s t hb ha _ ih =>
    rw [show n + 1 + k = n + k + 1 by omega, Machine.runUnit, if_pos (show unitBusy s .enc = true from hb),
      agentStep_encBusy hb, encAccess_admitted ha]
    exact ih

theorem DecChain.runUnit {n k : Nat} {s t : State} (h : DecChain n s t) : runUnit .dec (n + k) s = runUnit .dec k t := by
  induction h with
  | nil => rw [Nat.zero_add]
  | @cons n s t hb ha _ ih =>
    rw [show n + 1 + k = n + k + 1 by omega, Machine.runUnit, if_pos (show unitBusy s .dec = true from hb),
      agentStep_decBusy hb, decAccess_admitted ha]
    exact ih

/-- Nothing but the encoder has anything to do. -/
def OnlyEnc (s : State) : Prop :=
  s.io.rst = false ∧ s.request = [] ∧ s.script = [] ∧ s.dec.busy = false ∧ s.io.decStart = false

/-- Nothing but the decoder has anything to do. -/
def OnlyDec (s : State) : Prop :=
  s.io.rst = false ∧ s.request = [] ∧ s.script = [] ∧ s.enc.busy = false ∧ s.io.encStart = false

theorem OnlyEnc.keeps {s t : State} (h : OnlyEnc s) (hk : EncKeeps s t) : OnlyEnc t := by
  unfold OnlyEnc
  rw [hk.io, hk.request, hk.script, hk.dec]
  exact h

theorem OnlyDec.keeps {s t : State} (h : OnlyDec s) (hk : DecKeeps s t) : OnlyDec t := by
  unfold OnlyDec
  rw [hk.io, hk.request, hk.script, hk.enc]
  exact h

theorem OnlyEnc.enabled {s : State} (h : OnlyEnc s) (hw : hasWork s .enc = true) (hs : stuckAt s .enc = none) :
    enabled s = [.enc] := by
  obtain ⟨-, -, h3, h4, h5⟩ := h
  have e1 : canStep s .host = false := by simp [canStep, hasWork, h3]
  have e2 : canStep s .dec = false := by simp [canStep, hasWork, h4, h5]
  have e3 : canStep s .enc = true := by simp [canStep, hw, hs]
  simp [Machine.enabled, e1, e2, e3]

theorem OnlyDec.enabled {s : State} (h : OnlyDec s) (hw : hasWork s .dec = true) (hs : stuckAt s .dec = none) :
    enabled s = [.dec] := by
  obtain ⟨-, -, h3, h4, h5⟩ := h
  have e1 : canStep s .host = false := by simp [canStep, hasWork, h3]
  have e2 : canStep s .enc = false := by simp [canStep, hasWork, h4, h5]
  have e3 : canStep s .dec = true := by simp [canStep, hw, hs]
  simp [Machine.enabled, e1, e2, e3]

theorem encBusy_free {s : State} (hb : s.enc.busy = true) (ha : s.plat.admits (encNext s) = true) : stuckAt s .enc = none := by
  simp [stuckAt, nextAccess, hb, ha]

theorem decBusy_free {s : State} (hb : s.dec.busy = true) (ha : s.plat.admits (decNext s) = true) : stuckAt s .dec = none := by
  simp [stuckAt, nextAccess, hb, ha]

/-- With only the encoder having anything to do, a step is its next access. -/
theorem step_encAccess {s : State} (h : OnlyEnc s) (hb : s.enc.busy = true) (ha : s.plat.admits (encNext s) = true) :
    step s = .next (encAccessed s) := by
  rw [step, select_agents h.1 h.2.1, agentsStep_only (h.enabled (by simp [hasWork, hb]) (encBusy_free hb ha)),
    agentStep_encBusy hb, encAccess_admitted ha]
  rfl

theorem step_decAccess {s : State} (h : OnlyDec s) (hb : s.dec.busy = true) (ha : s.plat.admits (decNext s) = true) :
    step s = .next (decAccessed s) := by
  rw [step, select_agents h.1 h.2.1, agentsStep_only (h.enabled (by simp [hasWork, hb]) (decBusy_free hb ha)),
    agentStep_decBusy hb, decAccess_admitted ha]
  rfl

/-- A chain of accesses is as many steps of the machine, with only the encoder having anything to do. -/
theorem EncChain.run {n : Nat} {s t : State} (h : EncChain n s t) (ho : OnlyEnc s) : run n s = .next t := by
  induction h with
  | nil => rfl
  | cons hb ha _ ih =>
    rw [Machine.run, step_encAccess ho hb ha]
    exact ih (ho.keeps (encAccessed_keeps _))

theorem DecChain.run {n : Nat} {s t : State} (h : DecChain n s t) (ho : OnlyDec s) : run n s = .next t := by
  induction h with
  | nil => rfl
  | cons hb ha _ ih =>
    rw [Machine.run, step_decAccess ho hb ha]
    exact ih (ho.keeps (decAccessed_keeps _))

end Sys2Proof.Machine
end

