-- ==== Sys2Proof/Laws/PerInstr.lean ====
section
/-!
SUPPORT. The family WordRoundTrip: for each row of the opcode table, the word the encoder writes for it is read back, in the row's own
format, as that row (30_encoding.md R63, R64, R66, R55, R62; 41_decoder.md R87, R88). One lemma per constructor of `Instr`.
-/

namespace Sys2Proof.Laws.WordRoundTrip

/-- A well-formed instruction's word, read in its own format, is that instruction. -/
def Statement (i : Instr) : Prop :=
  i.wellFormed = true → decodeAs i.format i.word = .ok i

theorem encode : Statement .encode := fun _ => rfl
theorem decode : Statement .decode := fun _ => rfl
theorem encStart : Statement .encStart := fun _ => rfl
theorem decStart : Statement .decStart := fun _ => rfl
theorem encG3 : Statement .encG3 := fun _ => rfl
theorem encT2 : Statement .encT2 := fun _ => rfl
theorem encT1 : Statement .encT1 := fun _ => rfl
theorem encT0 : Statement .encT0 := fun _ => rfl
theorem decEnd0 : Statement .decEnd0 := fun _ => rfl
theorem decFailB : Statement .decFailB := fun _ => rfl
theorem decFailC : Statement .decFailC := fun _ => rfl
theorem decFailD : Statement .decFailD := fun _ => rfl
theorem decFailDP : Statement .decFailDP := fun _ => rfl
theorem decFailPD : Statement .decFailPD := fun _ => rfl
theorem decEnd1 : Statement .decEnd1 := fun _ => rfl
theorem decEnd2 : Statement .decEnd2 := fun _ => rfl
theorem decFull : Statement .decFull := fun _ => rfl
theorem decFetch (k : Nat) : Statement (.decFetch k) := by
  intro h
  have hk : k < 4 := by simpa [Instr.wellFormed] using h
  match k, hk with
  | 0, _ => rfl
  | 1, _ => rfl
  | 2, _ => rfl
  | 3, _ => rfl

theorem decShift (v : Sextet) : Statement (.decShift v) := by
  intro _
  have hv : v.toNat < 64 := v.isLt
  have hw : (Instr.decShift v).word.toNat = v.toNat := by
    simp [Instr.word, Instr.formatWord, Nat.mod_eq_of_lt (Nat.lt_trans hv (by decide : 64 < 256))]
  have hd : decodeAs (Instr.decShift v).format (Instr.decShift v).word
      = (if (Instr.decShift v).word.toNat < 64 then
          .ok (.decShift (BitVec.ofNat 6 (Instr.decShift v).word.toNat)) else .error (.noRow .decShift)) := rfl
  rw [hd, hw, if_pos hv, BitVec.ofNat_toNat, BitVec.setWidth_eq]

theorem decEmit1 : Statement .decEmit1 := fun _ => rfl
theorem decEmit2 : Statement .decEmit2 := fun _ => rfl

theorem alpha0 : Statement .alpha0 := fun _ => rfl
theorem alpha1 : Statement .alpha1 := fun _ => rfl
theorem alpha2 : Statement .alpha2 := fun _ => rfl
theorem alpha3 : Statement .alpha3 := fun _ => rfl
theorem alpha4 : Statement .alpha4 := fun _ => rfl
theorem alpha5 : Statement .alpha5 := fun _ => rfl
theorem alpha6 : Statement .alpha6 := fun _ => rfl
theorem alpha7 : Statement .alpha7 := fun _ => rfl
theorem alpha8 : Statement .alpha8 := fun _ => rfl
theorem alpha9 : Statement .alpha9 := fun _ => rfl
theorem alpha10 : Statement .alpha10 := fun _ => rfl
theorem alpha11 : Statement .alpha11 := fun _ => rfl
theorem alpha12 : Statement .alpha12 := fun _ => rfl
theorem alpha13 : Statement .alpha13 := fun _ => rfl
theorem alpha14 : Statement .alpha14 := fun _ => rfl
theorem alpha15 : Statement .alpha15 := fun _ => rfl
theorem alpha16 : Statement .alpha16 := fun _ => rfl
theorem alpha17 : Statement .alpha17 := fun _ => rfl
theorem alpha18 : Statement .alpha18 := fun _ => rfl
theorem alpha19 : Statement .alpha19 := fun _ => rfl
theorem alpha20 : Statement .alpha20 := fun _ => rfl
theorem alpha21 : Statement .alpha21 := fun _ => rfl
theorem alpha22 : Statement .alpha22 := fun _ => rfl
theorem alpha23 : Statement .alpha23 := fun _ => rfl
theorem alpha24 : Statement .alpha24 := fun _ => rfl
theorem alpha25 : Statement .alpha25 := fun _ => rfl
theorem alpha26 : Statement .alpha26 := fun _ => rfl
theorem alpha27 : Statement .alpha27 := fun _ => rfl
theorem alpha28 : Statement .alpha28 := fun _ => rfl
theorem alpha29 : Statement .alpha29 := fun _ => rfl
theorem alpha30 : Statement .alpha30 := fun _ => rfl
theorem alpha31 : Statement .alpha31 := fun _ => rfl
theorem alpha32 : Statement .alpha32 := fun _ => rfl
theorem alpha33 : Statement .alpha33 := fun _ => rfl
theorem alpha34 : Statement .alpha34 := fun _ => rfl
theorem alpha35 : Statement .alpha35 := fun _ => rfl
theorem alpha36 : Statement .alpha36 := fun _ => rfl
theorem alpha37 : Statement .alpha37 := fun _ => rfl
theorem alpha38 : Statement .alpha38 := fun _ => rfl
theorem alpha39 : Statement .alpha39 := fun _ => rfl
theorem alpha40 : Statement .alpha40 := fun _ => rfl
theorem alpha41 : Statement .alpha41 := fun _ => rfl
theorem alpha42 : Statement .alpha42 := fun _ => rfl
theorem alpha43 : Statement .alpha43 := fun _ => rfl
theorem alpha44 : Statement .alpha44 := fun _ => rfl
theorem alpha45 : Statement .alpha45 := fun _ => rfl
theorem alpha46 : Statement .alpha46 := fun _ => rfl
theorem alpha47 : Statement .alpha47 := fun _ => rfl
theorem alpha48 : Statement .alpha48 := fun _ => rfl
theorem alpha49 : Statement .alpha49 := fun _ => rfl
theorem alpha50 : Statement .alpha50 := fun _ => rfl
theorem alpha51 : Statement .alpha51 := fun _ => rfl
theorem alpha52 : Statement .alpha52 := fun _ => rfl
theorem alpha53 : Statement .alpha53 := fun _ => rfl
theorem alpha54 : Statement .alpha54 := fun _ => rfl
theorem alpha55 : Statement .alpha55 := fun _ => rfl
theorem alpha56 : Statement .alpha56 := fun _ => rfl
theorem alpha57 : Statement .alpha57 := fun _ => rfl
theorem alpha58 : Statement .alpha58 := fun _ => rfl
theorem alpha59 : Statement .alpha59 := fun _ => rfl
theorem alpha60 : Statement .alpha60 := fun _ => rfl
theorem alpha61 : Statement .alpha61 := fun _ => rfl
theorem alpha62 : Statement .alpha62 := fun _ => rfl
theorem alpha63 : Statement .alpha63 := fun _ => rfl
theorem rlut00 : Statement .rlut00 := fun _ => rfl
theorem rlut01 : Statement .rlut01 := fun _ => rfl
theorem rlut02 : Statement .rlut02 := fun _ => rfl
theorem rlut03 : Statement .rlut03 := fun _ => rfl
theorem rlut04 : Statement .rlut04 := fun _ => rfl
theorem rlut05 : Statement .rlut05 := fun _ => rfl
theorem rlut06 : Statement .rlut06 := fun _ => rfl
theorem rlut07 : Statement .rlut07 := fun _ => rfl
theorem rlut08 : Statement .rlut08 := fun _ => rfl
theorem rlut09 : Statement .rlut09 := fun _ => rfl
theorem rlut0A : Statement .rlut0A := fun _ => rfl
theorem rlut0B : Statement .rlut0B := fun _ => rfl
theorem rlut0C : Statement .rlut0C := fun _ => rfl
theorem rlut0D : Statement .rlut0D := fun _ => rfl
theorem rlut0E : Statement .rlut0E := fun _ => rfl
theorem rlut0F : Statement .rlut0F := fun _ => rfl
theorem rlut10 : Statement .rlut10 := fun _ => rfl
theorem rlut11 : Statement .rlut11 := fun _ => rfl
theorem rlut12 : Statement .rlut12 := fun _ => rfl
theorem rlut13 : Statement .rlut13 := fun _ => rfl
theorem rlut14 : Statement .rlut14 := fun _ => rfl
theorem rlut15 : Statement .rlut15 := fun _ => rfl
theorem rlut16 : Statement .rlut16 := fun _ => rfl
theorem rlut17 : Statement .rlut17 := fun _ => rfl
theorem rlut18 : Statement .rlut18 := fun _ => rfl
theorem rlut19 : Statement .rlut19 := fun _ => rfl
theorem rlut1A : Statement .rlut1A := fun _ => rfl
theorem rlut1B : Statement .rlut1B := fun _ => rfl
theorem rlut1C : Statement .rlut1C := fun _ => rfl
theorem rlut1D : Statement .rlut1D := fun _ => rfl
theorem rlut1E : Statement .rlut1E := fun _ => rfl
theorem rlut1F : Statement .rlut1F := fun _ => rfl
theorem rlut20 : Statement .rlut20 := fun _ => rfl
theorem rlut21 : Statement .rlut21 := fun _ => rfl
theorem rlut22 : Statement .rlut22 := fun _ => rfl
theorem rlut23 : Statement .rlut23 := fun _ => rfl
theorem rlut24 : Statement .rlut24 := fun _ => rfl
theorem rlut25 : Statement .rlut25 := fun _ => rfl
theorem rlut26 : Statement .rlut26 := fun _ => rfl
theorem rlut27 : Statement .rlut27 := fun _ => rfl
theorem rlut28 : Statement .rlut28 := fun _ => rfl
theorem rlut29 : Statement .rlut29 := fun _ => rfl
theorem rlut2A : Statement .rlut2A := fun _ => rfl
theorem rlut2B : Statement .rlut2B := fun _ => rfl
theorem rlut2C : Statement .rlut2C := fun _ => rfl
theorem rlut2D : Statement .rlut2D := fun _ => rfl
theorem rlut2E : Statement .rlut2E := fun _ => rfl
theorem rlut2F : Statement .rlut2F := fun _ => rfl
theorem rlut30 : Statement .rlut30 := fun _ => rfl
theorem rlut31 : Statement .rlut31 := fun _ => rfl
theorem rlut32 : Statement .rlut32 := fun _ => rfl
theorem rlut33 : Statement .rlut33 := fun _ => rfl
theorem rlut34 : Statement .rlut34 := fun _ => rfl
theorem rlut35 : Statement .rlut35 := fun _ => rfl
theorem rlut36 : Statement .rlut36 := fun _ => rfl
theorem rlut37 : Statement .rlut37 := fun _ => rfl
theorem rlut38 : Statement .rlut38 := fun _ => rfl
theorem rlut39 : Statement .rlut39 := fun _ => rfl
theorem rlut3A : Statement .rlut3A := fun _ => rfl
theorem rlut3B : Statement .rlut3B := fun _ => rfl
theorem rlut3C : Statement .rlut3C := fun _ => rfl
theorem rlut3D : Statement .rlut3D := fun _ => rfl
theorem rlut3E : Statement .rlut3E := fun _ => rfl
theorem rlut3F : Statement .rlut3F := fun _ => rfl
theorem rlut40 : Statement .rlut40 := fun _ => rfl
theorem rlut41 : Statement .rlut41 := fun _ => rfl
theorem rlut42 : Statement .rlut42 := fun _ => rfl
theorem rlut43 : Statement .rlut43 := fun _ => rfl
theorem rlut44 : Statement .rlut44 := fun _ => rfl
theorem rlut45 : Statement .rlut45 := fun _ => rfl
theorem rlut46 : Statement .rlut46 := fun _ => rfl
theorem rlut47 : Statement .rlut47 := fun _ => rfl
theorem rlut48 : Statement .rlut48 := fun _ => rfl
theorem rlut49 : Statement .rlut49 := fun _ => rfl
theorem rlut4A : Statement .rlut4A := fun _ => rfl
theorem rlut4B : Statement .rlut4B := fun _ => rfl
theorem rlut4C : Statement .rlut4C := fun _ => rfl
theorem rlut4D : Statement .rlut4D := fun _ => rfl
theorem rlut4E : Statement .rlut4E := fun _ => rfl
theorem rlut4F : Statement .rlut4F := fun _ => rfl
theorem rlut50 : Statement .rlut50 := fun _ => rfl
theorem rlut51 : Statement .rlut51 := fun _ => rfl
theorem rlut52 : Statement .rlut52 := fun _ => rfl
theorem rlut53 : Statement .rlut53 := fun _ => rfl
theorem rlut54 : Statement .rlut54 := fun _ => rfl
theorem rlut55 : Statement .rlut55 := fun _ => rfl
theorem rlut56 : Statement .rlut56 := fun _ => rfl
theorem rlut57 : Statement .rlut57 := fun _ => rfl
theorem rlut58 : Statement .rlut58 := fun _ => rfl
theorem rlut59 : Statement .rlut59 := fun _ => rfl
theorem rlut5A : Statement .rlut5A := fun _ => rfl
theorem rlut5B : Statement .rlut5B := fun _ => rfl
theorem rlut5C : Statement .rlut5C := fun _ => rfl
theorem rlut5D : Statement .rlut5D := fun _ => rfl
theorem rlut5E : Statement .rlut5E := fun _ => rfl
theorem rlut5F : Statement .rlut5F := fun _ => rfl
theorem rlut60 : Statement .rlut60 := fun _ => rfl
theorem rlut61 : Statement .rlut61 := fun _ => rfl
theorem rlut62 : Statement .rlut62 := fun _ => rfl
theorem rlut63 : Statement .rlut63 := fun _ => rfl
theorem rlut64 : Statement .rlut64 := fun _ => rfl
theorem rlut65 : Statement .rlut65 := fun _ => rfl
theorem rlut66 : Statement .rlut66 := fun _ => rfl
theorem rlut67 : Statement .rlut67 := fun _ => rfl
theorem rlut68 : Statement .rlut68 := fun _ => rfl
theorem rlut69 : Statement .rlut69 := fun _ => rfl
theorem rlut6A : Statement .rlut6A := fun _ => rfl
theorem rlut6B : Statement .rlut6B := fun _ => rfl
theorem rlut6C : Statement .rlut6C := fun _ => rfl
theorem rlut6D : Statement .rlut6D := fun _ => rfl
theorem rlut6E : Statement .rlut6E := fun _ => rfl
theorem rlut6F : Statement .rlut6F := fun _ => rfl
theorem rlut70 : Statement .rlut70 := fun _ => rfl
theorem rlut71 : Statement .rlut71 := fun _ => rfl
theorem rlut72 : Statement .rlut72 := fun _ => rfl
theorem rlut73 : Statement .rlut73 := fun _ => rfl
theorem rlut74 : Statement .rlut74 := fun _ => rfl
theorem rlut75 : Statement .rlut75 := fun _ => rfl
theorem rlut76 : Statement .rlut76 := fun _ => rfl
theorem rlut77 : Statement .rlut77 := fun _ => rfl
theorem rlut78 : Statement .rlut78 := fun _ => rfl
theorem rlut79 : Statement .rlut79 := fun _ => rfl
theorem rlut7A : Statement .rlut7A := fun _ => rfl
theorem rlut7B : Statement .rlut7B := fun _ => rfl
theorem rlut7C : Statement .rlut7C := fun _ => rfl
theorem rlut7D : Statement .rlut7D := fun _ => rfl
theorem rlut7E : Statement .rlut7E := fun _ => rfl
theorem rlut7F : Statement .rlut7F := fun _ => rfl
theorem rlut80 : Statement .rlut80 := fun _ => rfl
theorem rlut81 : Statement .rlut81 := fun _ => rfl
theorem rlut82 : Statement .rlut82 := fun _ => rfl
theorem rlut83 : Statement .rlut83 := fun _ => rfl
theorem rlut84 : Statement .rlut84 := fun _ => rfl
theorem rlut85 : Statement .rlut85 := fun _ => rfl
theorem rlut86 : Statement .rlut86 := fun _ => rfl
theorem rlut87 : Statement .rlut87 := fun _ => rfl
theorem rlut88 : Statement .rlut88 := fun _ => rfl
theorem rlut89 : Statement .rlut89 := fun _ => rfl
theorem rlut8A : Statement .rlut8A := fun _ => rfl
theorem rlut8B : Statement .rlut8B := fun _ => rfl
theorem rlut8C : Statement .rlut8C := fun _ => rfl
theorem rlut8D : Statement .rlut8D := fun _ => rfl
theorem rlut8E : Statement .rlut8E := fun _ => rfl
theorem rlut8F : Statement .rlut8F := fun _ => rfl
theorem rlut90 : Statement .rlut90 := fun _ => rfl
theorem rlut91 : Statement .rlut91 := fun _ => rfl
theorem rlut92 : Statement .rlut92 := fun _ => rfl
theorem rlut93 : Statement .rlut93 := fun _ => rfl
theorem rlut94 : Statement .rlut94 := fun _ => rfl
theorem rlut95 : Statement .rlut95 := fun _ => rfl
theorem rlut96 : Statement .rlut96 := fun _ => rfl
theorem rlut97 : Statement .rlut97 := fun _ => rfl
theorem rlut98 : Statement .rlut98 := fun _ => rfl
theorem rlut99 : Statement .rlut99 := fun _ => rfl
theorem rlut9A : Statement .rlut9A := fun _ => rfl
theorem rlut9B : Statement .rlut9B := fun _ => rfl
theorem rlut9C : Statement .rlut9C := fun _ => rfl
theorem rlut9D : Statement .rlut9D := fun _ => rfl
theorem rlut9E : Statement .rlut9E := fun _ => rfl
theorem rlut9F : Statement .rlut9F := fun _ => rfl
theorem rlutA0 : Statement .rlutA0 := fun _ => rfl
theorem rlutA1 : Statement .rlutA1 := fun _ => rfl
theorem rlutA2 : Statement .rlutA2 := fun _ => rfl
theorem rlutA3 : Statement .rlutA3 := fun _ => rfl
theorem rlutA4 : Statement .rlutA4 := fun _ => rfl
theorem rlutA5 : Statement .rlutA5 := fun _ => rfl
theorem rlutA6 : Statement .rlutA6 := fun _ => rfl
theorem rlutA7 : Statement .rlutA7 := fun _ => rfl
theorem rlutA8 : Statement .rlutA8 := fun _ => rfl
theorem rlutA9 : Statement .rlutA9 := fun _ => rfl
theorem rlutAA : Statement .rlutAA := fun _ => rfl
theorem rlutAB : Statement .rlutAB := fun _ => rfl
theorem rlutAC : Statement .rlutAC := fun _ => rfl
theorem rlutAD : Statement .rlutAD := fun _ => rfl
theorem rlutAE : Statement .rlutAE := fun _ => rfl
theorem rlutAF : Statement .rlutAF := fun _ => rfl
theorem rlutB0 : Statement .rlutB0 := fun _ => rfl
theorem rlutB1 : Statement .rlutB1 := fun _ => rfl
theorem rlutB2 : Statement .rlutB2 := fun _ => rfl
theorem rlutB3 : Statement .rlutB3 := fun _ => rfl
theorem rlutB4 : Statement .rlutB4 := fun _ => rfl
theorem rlutB5 : Statement .rlutB5 := fun _ => rfl
theorem rlutB6 : Statement .rlutB6 := fun _ => rfl
theorem rlutB7 : Statement .rlutB7 := fun _ => rfl
theorem rlutB8 : Statement .rlutB8 := fun _ => rfl
theorem rlutB9 : Statement .rlutB9 := fun _ => rfl
theorem rlutBA : Statement .rlutBA := fun _ => rfl
theorem rlutBB : Statement .rlutBB := fun _ => rfl
theorem rlutBC : Statement .rlutBC := fun _ => rfl
theorem rlutBD : Statement .rlutBD := fun _ => rfl
theorem rlutBE : Statement .rlutBE := fun _ => rfl
theorem rlutBF : Statement .rlutBF := fun _ => rfl
theorem rlutC0 : Statement .rlutC0 := fun _ => rfl
theorem rlutC1 : Statement .rlutC1 := fun _ => rfl
theorem rlutC2 : Statement .rlutC2 := fun _ => rfl
theorem rlutC3 : Statement .rlutC3 := fun _ => rfl
theorem rlutC4 : Statement .rlutC4 := fun _ => rfl
theorem rlutC5 : Statement .rlutC5 := fun _ => rfl
theorem rlutC6 : Statement .rlutC6 := fun _ => rfl
theorem rlutC7 : Statement .rlutC7 := fun _ => rfl
theorem rlutC8 : Statement .rlutC8 := fun _ => rfl
theorem rlutC9 : Statement .rlutC9 := fun _ => rfl
theorem rlutCA : Statement .rlutCA := fun _ => rfl
theorem rlutCB : Statement .rlutCB := fun _ => rfl
theorem rlutCC : Statement .rlutCC := fun _ => rfl
theorem rlutCD : Statement .rlutCD := fun _ => rfl
theorem rlutCE : Statement .rlutCE := fun _ => rfl
theorem rlutCF : Statement .rlutCF := fun _ => rfl
theorem rlutD0 : Statement .rlutD0 := fun _ => rfl
theorem rlutD1 : Statement .rlutD1 := fun _ => rfl
theorem rlutD2 : Statement .rlutD2 := fun _ => rfl
theorem rlutD3 : Statement .rlutD3 := fun _ => rfl
theorem rlutD4 : Statement .rlutD4 := fun _ => rfl
theorem rlutD5 : Statement .rlutD5 := fun _ => rfl
theorem rlutD6 : Statement .rlutD6 := fun _ => rfl
theorem rlutD7 : Statement .rlutD7 := fun _ => rfl
theorem rlutD8 : Statement .rlutD8 := fun _ => rfl
theorem rlutD9 : Statement .rlutD9 := fun _ => rfl
theorem rlutDA : Statement .rlutDA := fun _ => rfl
theorem rlutDB : Statement .rlutDB := fun _ => rfl
theorem rlutDC : Statement .rlutDC := fun _ => rfl
theorem rlutDD : Statement .rlutDD := fun _ => rfl
theorem rlutDE : Statement .rlutDE := fun _ => rfl
theorem rlutDF : Statement .rlutDF := fun _ => rfl
theorem rlutE0 : Statement .rlutE0 := fun _ => rfl
theorem rlutE1 : Statement .rlutE1 := fun _ => rfl
theorem rlutE2 : Statement .rlutE2 := fun _ => rfl
theorem rlutE3 : Statement .rlutE3 := fun _ => rfl
theorem rlutE4 : Statement .rlutE4 := fun _ => rfl
theorem rlutE5 : Statement .rlutE5 := fun _ => rfl
theorem rlutE6 : Statement .rlutE6 := fun _ => rfl
theorem rlutE7 : Statement .rlutE7 := fun _ => rfl
theorem rlutE8 : Statement .rlutE8 := fun _ => rfl
theorem rlutE9 : Statement .rlutE9 := fun _ => rfl
theorem rlutEA : Statement .rlutEA := fun _ => rfl
theorem rlutEB : Statement .rlutEB := fun _ => rfl
theorem rlutEC : Statement .rlutEC := fun _ => rfl
theorem rlutED : Statement .rlutED := fun _ => rfl
theorem rlutEE : Statement .rlutEE := fun _ => rfl
theorem rlutEF : Statement .rlutEF := fun _ => rfl
theorem rlutF0 : Statement .rlutF0 := fun _ => rfl
theorem rlutF1 : Statement .rlutF1 := fun _ => rfl
theorem rlutF2 : Statement .rlutF2 := fun _ => rfl
theorem rlutF3 : Statement .rlutF3 := fun _ => rfl
theorem rlutF4 : Statement .rlutF4 := fun _ => rfl
theorem rlutF5 : Statement .rlutF5 := fun _ => rfl
theorem rlutF6 : Statement .rlutF6 := fun _ => rfl
theorem rlutF7 : Statement .rlutF7 := fun _ => rfl
theorem rlutF8 : Statement .rlutF8 := fun _ => rfl
theorem rlutF9 : Statement .rlutF9 := fun _ => rfl
theorem rlutFA : Statement .rlutFA := fun _ => rfl
theorem rlutFB : Statement .rlutFB := fun _ => rfl
theorem rlutFC : Statement .rlutFC := fun _ => rfl
theorem rlutFD : Statement .rlutFD := fun _ => rfl
theorem rlutFE : Statement .rlutFE := fun _ => rfl
theorem rlutFF : Statement .rlutFF := fun _ => rfl

end Sys2Proof.Laws.WordRoundTrip
end

