-- ==== Sys2Proof/Tests/Slice0.lean ====
section
/-!
SUPPORT. Tests of one step each on small states, their expected results from the spec's vectors (95_test_vectors.md) or by hand from its
tables, and for every statement that has hypotheses a witness that meets all of them together (`test_hyp_<its name>`).
-/

namespace Sys2Proof.Tests

open Sys2Proof Sys2Proof.Machine

/-! ## Small states -/

/-- An eight-bit machine, every address backed. -/
def tiny : State := { State.reset with plat := { aw := 8, holes := [] } }

/-- The same with no memory at `a`. -/
def holed (s : State) (a : Nat) : State := { s with plat := { aw := 8, holes := [{ base := a, size := 1 }] } }

/-- The next state, if there is one. -/
def nextOf : Answer → Option State
  | .next s => some s
  | .fault _ => none
  | .refused _ => none

/-- The stop, if there is one. -/
def stopOf : Answer → Option Stop
  | .next _ => none
  | .fault f => some (.fault f)
  | .refused r => some (.refusal r)

/-- Does it answer a next state? -/
def runs (a : Answer) : Bool := (nextOf a).isSome

/-- Bytes in memory. -/
def put (s : State) (a : Nat) (bs : List Byte) : State := s.withMem (Memory.setAll s.plat.aw s.mem a bs)

/-- The encoder busy at 0x10, writing to 0x40. -/
def encAt (bs : List Byte) : State :=
  (put tiny 0x10 bs).withEnc { tiny.enc with busy := true, src := 0x10, dst := 0x40, rem := bs.length }

/-- The decoder busy at 0x10, writing to 0x40. -/
def decAt (cs : List Byte) : State :=
  (put tiny 0x10 cs).withDec { tiny.dec with busy := true, src := 0x10, dst := 0x40 }

/-- An `ENCODE` command on the ports. -/
def encCmd (bs : List Byte) : State :=
  (put tiny 0x10 bs).withIo { tiny.io with encStart := true, encDest := 0x40, encSrc := 0x10, encSize := bs.length }

/-- A `DECODE` command on the ports. -/
def decCmd (cs : List Byte) : State :=
  (put tiny 0x10 cs).withIo { tiny.io with decStart := true, decDest := 0x40, decSrc := 0x10 }

/-- What a decoder step leaves: the three bytes at its destination, result, source and destination pointers, `D.k`. -/
def decLeaves (a : Answer) : Option (List Byte × Option OpResult × Nat × Nat × BitVec 2) :=
  (nextOf a).map (fun t => (bytesAt t.mem 0x40 3, decResult t, t.dec.src, t.dec.dst, t.dec.k))

/-- What a whole `DECODE` leaves: three bytes and the result. -/
def decodeLeaves (cs : List Byte) : Option (List Byte × Option OpResult) :=
  (nextOf (exec .decode (decCmd cs))).map (fun t => (bytesAt t.mem 0x40 3, decResult t))

/-- What a whole `ENCODE` leaves: nine bytes and the result. -/
def encodeLeaves (bs : List Byte) : Option (List Byte × Option OpResult) :=
  (nextOf (exec .encode (encCmd bs))).map (fun t => (bytesAt t.mem 0x40 9, encResult t))

/-! ## Well-formedness: the one check there is -/

/-- `DEC.FETCH` has four indices (R87); every other operand's type admits exactly its field's values. -/
theorem test_wellFormed_fetch_index :
    Instr.wellFormed (.decFetch 3) = true ∧ Instr.wellFormed (.decFetch 4) = false ∧
      decodeAs .decFetch 0b11#8 = .ok (.decFetch 3) ∧ decodeAs .decFetch 0b100#8 = .error (.noRow .decFetch) := by decide

/-! ## Decoding, bit by bit from the spec -/

/-- R66: `op = 0` `ENCODE`, `op = 1` `DECODE`. -/
theorem test_word_cmd :
    decode [0b00000000#8, 1#8] = .ok (.encode, []) ∧ decode [0b00000001#8, 1#8] = .ok (.decode, []) ∧
      decode [0b00000010#8, 1#8] = .error (.noRow .cmd) := by decide

/-- R71, R86: only `{start, busy} = 10` accepts. -/
theorem test_word_ctrl :
    decode [0b10#8, 2#8] = .ok (.encStart, []) ∧ decode [0b11#8, 2#8] = .error (.noRow .ctrlEnc) ∧
      decode [0b10#8, 3#8, 7#8] = .ok (.decStart, [7#8]) ∧ decode [0b01#8, 3#8] = .error (.noRow .ctrlDec) := by decide

/-- R64. -/
theorem test_word_encAct :
    decodeAs .encAct 0b11#8 = .ok .encG3 ∧ decodeAs .encAct 0b10#8 = .ok .encT2 ∧ decodeAs .encAct 0b01#8 = .ok .encT1 ∧
      decodeAs .encAct 0b00#8 = .ok .encT0 := by decide

/-- R63 and 95_test_vectors.md 2.6, one word for each row, the unexamined bits 0 and 1. -/
theorem test_word_decAct :
    decodeAs .decAct 0b10111111#8 = .ok .decEnd0 ∧ decodeAs .decAct 0b11000000#8 = .ok .decEnd0 ∧
      decodeAs .decAct 0b00100101#8 = .ok .decFailB ∧ decodeAs .decAct 0b00110000#8 = .ok .decFailB ∧
      decodeAs .decAct 0b00001011#8 = .ok .decFailC ∧ decodeAs .decAct 0b00000010#8 = .ok .decFailD ∧
      decodeAs .decAct 0b00001110#8 = .ok .decFailDP ∧ decodeAs .decAct 0b00001100#8 = .ok .decFailPD ∧
      decodeAs .decAct 0b00001111#8 = .ok .decEnd1 ∧ decodeAs .decAct 0b00000011#8 = .ok .decEnd2 ∧
      decodeAs .decAct 0b00000000#8 = .ok .decFull := by decide

/-- R65 (b): a class code `01` in an examined place selects nothing. -/
theorem test_word_decAct_reserved :
    decodeAs .decAct 0b01000000#8 = .error (.noRow .decAct) ∧ decodeAs .decAct 0b00010000#8 = .error (.noRow .decAct) ∧
      decodeAs .decAct 0b00000100#8 = .error (.noRow .decAct) ∧ decodeAs .decAct 0b00000001#8 = .error (.noRow .decAct) := by
  decide

/-- R87, R88, R91, R97. -/
theorem test_word_decSub :
    decodeAs .decFetch 0b01#8 = .ok (.decFetch 1) ∧ decodeAs .decShift 0b111111#8 = .ok (.decShift 63#6) ∧
      decodeAs .decShift 0b1000000#8 = .error (.noRow .decShift) ∧ decodeAs .decEmit1 0#8 = .ok .decEmit1 ∧
      decodeAs .decEmit2 0#8 = .ok .decEmit2 := by decide

/-- R55, R62. -/
theorem test_word_tables :
    decodeAs .alpha 0b111111#8 = .ok .alpha63 ∧ decodeAs .alpha 0b1000000#8 = .error (.noRow .alpha) ∧
      decodeAs .rlut 0x3D#8 = .ok .rlut3D ∧ decodeAs .rlut 0xFF#8 = .ok .rlutFF := by decide

/-- A record ends early, or names no format (notes/assumptions/11). -/
theorem test_word_no_record :
    decode [] = .error .truncated ∧ decode [0#8] = .error .truncated ∧ decode [0#8, 12#8] = .error (.noFormat 12#8) := by decide

/-! ## The tables (95_test_vectors.md 2.1) -/

theorem test_alpha_rows :
    [Instr.alpha0, .alpha25, .alpha26, .alpha51, .alpha52, .alpha61, .alpha62, .alpha63].map
      (fun i => (nextOf (exec i tiny)).map (fun t => t.alphaOut)) =
    [some 0x41#8, some 0x5A#8, some 0x61#8, some 0x7A#8, some 0x30#8, some 0x39#8, some 0x2B#8, some 0x2F#8] := by decide

theorem test_rlut_rows_data :
    [Instr.rlut41, .rlut5A, .rlut61, .rlut7A, .rlut30, .rlut39, .rlut2B, .rlut2F].map
      (fun i => (nextOf (exec i tiny)).map (fun t => storedForm t.rlutOut)) =
    [some 0x00#8, some 0x19#8, some 0x1A#8, some 0x33#8, some 0x34#8, some 0x3D#8, some 0x3E#8, some 0x3F#8] := by decide

theorem test_rlut_rows_other :
    ([Instr.rlut00, .rlut0A, .rlut2D, .rlut40, .rlut5B, .rlut60, .rlut7B, .rlut3C, .rlut80, .rlutFF].map
      (fun i => (nextOf (exec i tiny)).map (fun t => storedForm t.rlutOut)) = List.replicate 10 (some 0x80#8)) ∧
    (nextOf (exec .rlut3D tiny)).map (fun t => storedForm t.rlutOut) = some 0xC0#8 := by decide

/-! ## Assembly (95_test_vectors.md 2.2) -/

theorem test_sextets :
    (let g := joinBytes 0x69#8 0xB7#8 0x1D#8
     [sextet0 g, sextet1 g, sextet2 g, sextet3 g]) = [26#6, 27#6, 28#6, 29#6] := by decide

theorem test_bytes :
    (let g := shiftIn (shiftIn 0xFFFFFF#24 19#6) 22#6
     (byte1 g, byte2 (shiftIn g 5#6), byte3 (shiftIn (shiftIn g 5#6) 46#6))) = (0x4D#8, 0x61#8, 0x6E#8) := by decide

/-! ## The encoder (95_test_vectors.md 2.3, 2.7) -/

theorem test_encStart_accepts :
    (nextOf (exec .encStart (encCmd [0x4D#8]))).map (fun t => (t.enc.src, t.enc.dst, t.enc.rem, t.enc.busy, t.enc.done)) =
      some (0x10, 0x40, 1, true, false) := by decide

theorem test_encStart_ignored_while_busy :
    nextOf (exec .encStart ((encAt [0x4D#8]).withIo (encCmd [0x4D#8, 0x61#8]).io)) =
      some ((encAt [0x4D#8]).withIo (encCmd [0x4D#8, 0x61#8]).io) := by decide

theorem test_encG3_Man :
    (nextOf (exec .encG3 (encAt [0x4D#8, 0x61#8, 0x6E#8]))).map
      (fun t => (bytesAt t.mem 0x40 4, t.enc.src, t.enc.dst, t.enc.rem, t.enc.g)) =
    some ([0x54#8, 0x57#8, 0x46#8, 0x75#8], 0x13, 0x44, 0, 0x4D616E#24) := by decide

/-- At the top of memory both pointers wrap to 0 (R35, R81). -/
theorem test_encG3_wraps :
    (nextOf (exec .encG3 ((put tiny 0xFD [0xFF#8, 0xFF#8, 0xFF#8]).withEnc
      { tiny.enc with busy := true, src := 0xFD, dst := 0xFE, rem := 5 }))).map
      (fun t => ([t.mem.get 0xFE, t.mem.get 0xFF, t.mem.get 0, t.mem.get 1], t.enc.src, t.enc.dst, t.enc.rem)) =
    some ([0x2F#8, 0x2F#8, 0x2F#8, 0x2F#8], 0, 2, 2) := by decide

theorem test_encT2_Ma :
    (nextOf (exec .encT2 (encAt [0x4D#8, 0x61#8]))).map
      (fun t => (bytesAt t.mem 0x40 4, t.enc.src, t.enc.dst, t.enc.rem)) =
    some ([0x54#8, 0x57#8, 0x45#8, 0x3D#8], 0x12, 0x44, 0) := by decide

theorem test_encT1_FF :
    (nextOf (exec .encT1 (encAt [0xFF#8]))).map (fun t => (bytesAt t.mem 0x40 4, t.enc.src, t.enc.dst, t.enc.rem)) =
    some ([0x2F#8, 0x77#8, 0x3D#8, 0x3D#8], 0x11, 0x44, 0) := by decide

theorem test_encT0_terminates :
    (nextOf (exec .encT0 (put (encAt []) 0x40 [0xEE#8]))).map
      (fun t => (t.mem.get 0x40, encResult t, t.enc.busy, t.enc.dst)) = some (0x00#8, some (.ok 0x40), false, 0x40) := by decide

theorem test_encode_Many :
    encodeLeaves [0x4D#8, 0x61#8, 0x6E#8, 0x79#8] =
      some ([0x54#8, 0x57#8, 0x46#8, 0x75#8, 0x65#8, 0x51#8, 0x3D#8, 0x3D#8, 0x00#8], some (.ok 0x48)) := by decide

theorem test_encode_empty :
    encodeLeaves [] = some (List.replicate 9 0x00#8, some (.ok 0x40)) := by decide

/-! ## The decoder (95_test_vectors.md 2.4 to 2.7) -/

theorem test_decStart_accepts :
    (nextOf (exec .decStart ((decCmd []).withDec { tiny.dec with done := true, fail := true }))).map
      (fun t => (t.dec.src, t.dec.dst, t.dec.k, t.dec.busy, t.dec.done, t.dec.fail)) =
    some (0x10, 0x40, 0#2, true, false, false) := by decide

theorem test_decStart_ignored_while_busy :
    nextOf (exec .decStart ((decAt []).withIo (decCmd []).io)) = some ((decAt []).withIo (decCmd []).io) := by decide

theorem test_decFetch_third_latches_pad :
    (nextOf (exec (.decFetch 2) ((decAt [0x54#8, 0x51#8, 0x3D#8]).withDec
      { tiny.dec with busy := true, src := 0x10, dst := 0x40, k := 2#2 }))).map
      (fun t => (t.rlutOut, t.dec.k, t.dec.cpad, t.dec.src)) = some (.pad, 3#2, true, 0x10) := by decide

theorem test_decFetch_other_index_not_selected :
    stopOf (exec (.decFetch 1) (decAt [0x54#8])) = some (.refusal .notSelected) := by decide

theorem test_decShift :
    (nextOf (exec (.decShift 46#6) (tiny.withDec { tiny.dec with sh := 0xFD3585#24 }))).map (fun t => t.dec.sh) =
      some 0x4D616E#24 := by decide

theorem test_decEmits :
    (nextOf (exec .decEmit1 (tiny.withDec { tiny.dec with sh := 0xABC4D6#24, dst := 0xFF }))).map
      (fun t => (t.mem.get 0xFF, t.dec.dst)) = some (0x4D#8, 0) ∧
    (nextOf (exec .decEmit2 (tiny.withDec { tiny.dec with sh := 0x013585#24, dst := 0x40 }))).map
      (fun t => (t.mem.get 0x40, t.dec.dst)) = some (0x61#8, 0x41) := by decide

theorem test_decEnd0_pad_first :
    decLeaves (exec .decEnd0 (decAt [0x3D#8])) = some ([0#8, 0#8, 0#8], some (.ok 0x40), 0x10, 0x40, 1#2) := by decide

theorem test_decFailB_T_pad :
    decLeaves (exec .decFailB (decAt [0x54#8, 0x3D#8, 0x57#8, 0x45#8])) =
      some ([0#8, 0#8, 0#8], some .fail, 0x10, 0x40, 2#2) := by decide

theorem test_decFailC_TW :
    decLeaves (exec .decFailC (decAt [0x54#8, 0x57#8])) = some ([0x4D#8, 0#8, 0#8], some .fail, 0x10, 0x41, 3#2) := by decide

theorem test_decFailD_TWE :
    decLeaves (exec .decFailD (decAt [0x54#8, 0x57#8, 0x45#8])) =
      some ([0x4D#8, 0#8, 0#8], some .fail, 0x10, 0x41, 0#2) := by decide

theorem test_decFailDP_TW_pad :
    decLeaves (exec .decFailDP (decAt [0x54#8, 0x57#8, 0x3D#8, 0x21#8])) =
      some ([0x4D#8, 0#8, 0#8], some .fail, 0x10, 0x41, 0#2) := by decide

theorem test_decFailPD_TW_pad_E :
    decLeaves (exec .decFailPD (decAt [0x54#8, 0x57#8, 0x3D#8, 0x45#8])) =
      some ([0x4D#8, 0#8, 0#8], some .fail, 0x10, 0x41, 0#2) := by decide

theorem test_decEnd1_TQ :
    decLeaves (exec .decEnd1 (decAt [0x54#8, 0x51#8, 0x3D#8, 0x3D#8])) =
      some ([0x4D#8, 0#8, 0#8], some (.ok 0x41), 0x10, 0x41, 0#2) := by decide

theorem test_decEnd2_TWE :
    decLeaves (exec .decEnd2 (decAt [0x54#8, 0x57#8, 0x45#8, 0x3D#8])) =
      some ([0x4D#8, 0x61#8, 0#8], some (.ok 0x42), 0x10, 0x42, 0#2) := by decide

theorem test_decFull_TWFu :
    decLeaves (exec .decFull (decAt [0x54#8, 0x57#8, 0x46#8, 0x75#8])) =
      some ([0x4D#8, 0x61#8, 0x6E#8], none, 0x14, 0x43, 0#2) := by decide

/-- Byte 1 is written before the third character is read (R41): here it is written where that character stands. -/
theorem test_decFailC_byte1_first :
    (nextOf (exec .decFailC ((put tiny 0x10 [0x41#8, 0x41#8, 0x41#8, 0x41#8]).withDec
      { tiny.dec with busy := true, src := 0x10, dst := 0x12 }))).map (fun t => (t.dec.fail, t.dec.dst)) =
    some (true, 0x13) := by decide

theorem test_decode_foo :
    decodeLeaves [0x5A#8, 0x6D#8, 0x39#8, 0x76#8] = some ([0x66#8, 0x6F#8, 0x6F#8], some (.ok 0x43)) := by decide

/-- `"TWE"` fails, and its first byte stays written (R107). -/
theorem test_decode_TWE_fails :
    decodeLeaves [0x54#8, 0x57#8, 0x45#8] = some ([0x4D#8, 0#8, 0#8], some .fail) := by decide

/-! ## Steps -/

/-- A busy unit's step is one access (R41, R45): after six of the six of `"Ma"` the encoder's row is done, after five it is not. -/
theorem test_step_encoder_accesses :
    nextOf (run 6 (encAt [0x4D#8, 0x61#8])) = nextOf (exec .encT2 (encAt [0x4D#8, 0x61#8])) ∧
      (nextOf (run 5 (encAt [0x4D#8, 0x61#8]))).map (fun t => (bytesAt t.mem 0x40 4, t.enc.rem, t.enc.phase)) =
        some ([0x54#8, 0x57#8, 0x45#8, 0#8], 2, .write4) := by decide

/-- The decoder's third access of a group is the write of byte 1, before the third character is read (R41). -/
theorem test_step_decoder_accesses :
    nextOf (run 4 (decAt [0x54#8, 0x57#8])) = nextOf (exec .decFailC (decAt [0x54#8, 0x57#8])) ∧
      (nextOf (run 3 (decAt [0x54#8, 0x57#8]))).map (fun t => (t.mem.get 0x40, t.dec.k, t.dec.phase)) =
        some (0x4D#8, 2#2, .read3) := by decide

/-- Both units busy: a unit with no memory at its next address has no step, and the other goes on (R39, 92 D14). -/
theorem test_step_past_a_stuck_unit :
    (let s := holed ((encAt [0x4D#8]).withDec (decAt []).dec) 0x10
     enabled s) = [] ∧
    (let s := holed ((encAt [0x4D#8]).withDec { (decAt []).dec with src := 0x20 }) 0x10
     (enabled s, (nextOf (step s)).map (fun t => decResult t))) = ([.dec], some (some (.ok 0x40))) := by decide

/-- The host's own word placement: the very next step runs the row the word decodes to. -/
theorem test_fetchWord :
    decodeTableWord 8 0x20 = some .decFailB ∧
      (nextOf (step (State.reset.withFetchWord 8 0x20))).map (fun t => (t.dec.fail, t.dec.done)) = some (true, true) := by decide

/-! ## Witnesses: encodings and tables -/

theorem test_hyp_RecordRoundTrip : Instr.wellFormed (.decFetch 0) = true ∧ Instr.wellFormed (.decFetch 3) = true := by decide

theorem test_hyp_DecoderActionMapRows : isData .pad = false ∧ isData .notB64 = false := by decide

theorem test_hyp_EncoderActionMapRows :
    3 ≤ (encAt [1#8, 2#8, 3#8]).enc.rem ∧ (encAt [1#8, 2#8]).enc.rem = 2 ∧ (encAt [1#8]).enc.rem = 1 ∧
      (encAt []).enc.rem = 0 := by decide

/-! ## Witnesses: memory -/

theorem test_hyp_ByteWriteThenReads :
    tiny.mem.wf = true ∧ (writeByte tiny 0xFF 7#8).toOption.isSome = true ∧ (writeByte tiny 0 0#8).toOption.isSome = true := by
  decide

/-- The first address no memory backs among an encoder row's accesses: its first read, its second, a write in the middle, its last. -/
theorem test_hyp_UnadmittedAccessIsStuck_enc :
    [(Instr.encG3, holed (encAt [1#8, 2#8, 3#8]) 0x10), (.encT2, holed (encAt [1#8, 2#8]) 0x11), (.encT1, holed (encAt [1#8]) 0x42),
        (.encG3, holed (encAt [1#8, 2#8, 3#8]) 0x43), (.encT0, holed (encAt []) 0x40)].map (fun p =>
      (p.2.enc.busy && p.2.enc.phase == .read1 && decodeEncAct (encActWord p.2.enc) == .ok p.1,
        firstUnadmitted p.2.plat (encAccesses p.1 p.2))) =
    [(true, some 0x10), (true, some 0x11), (true, some 0x42), (true, some 0x43), (true, some 0x40)] := by decide

theorem test_hyp_UnadmittedAccessIsStuck_dec :
    [(Instr.decEnd0, holed (decAt []) 0x10), (.decFailB, holed (decAt []) 0x11), (.decEnd1, holed (decAt []) 0x40),
        (.decFailC, holed (decAt []) 0x12), (.decFailPD, holed (decAt []) 0x13), (.decEnd2, holed (decAt []) 0x41),
        (.decFull, holed (decAt []) 0x42)].map (fun p => firstUnadmitted p.2.plat (decAccesses p.1 p.2)) =
      [some 0x10, some 0x11, some 0x40, some 0x12, some 0x13, some 0x41, some 0x42] ∧
    ((holed tiny 0).dec.k.toNat = 0 ∧ (holed tiny 0).addr (holed tiny 0).dec.src 0 = 0 ∧ (holed tiny 0).dec.dst = 0 ∧
      (holed tiny 0).plat.admits 0 = false) := by decide

theorem test_hyp_UnadmittedAccessIsStuck_whole :
    (let s := holed (encCmd [1#8]) 0x44
     let v := encViews s.io.encDest s.io.encSrc s.io.encSize
     s.enc.busy = false ∧ v.Allowed s (decRunning s) ∧ v.dst.Holds 0x44 ∧ s.plat.admits 0x44 = false) ∧
    (let s := holed (decCmd [0x54#8]) 0x10
     s.dec.busy = false ∧ strLen s s.io.decSrc = some 1 ∧ (decViews s.io.decDest s.io.decSrc 1).Allowed s (encRunning s) ∧
       s.plat.admits 0x10 = false) := by
  simp only [Views.Allowed, Span.Holds]
  decide

/-! ## Witnesses: the encoder -/

theorem test_hyp_EncStartAccepts :
    (let s := encCmd [1#8]
     s.io.encStart = true ∧ s.enc.busy = false ∧
       (encViews s.io.encDest s.io.encSrc s.io.encSize).Allowed s (decRunning s)) ∧
    (encAt []).enc.busy = true ∧ tiny.io.encStart = false := by
  simp only [Views.Allowed]
  decide

theorem test_hyp_EncG3EncodesAGroup :
    let s := encAt [1#8, 2#8, 3#8]
    s.enc.busy = true ∧ s.enc.phase = .read1 ∧ 3 ≤ s.enc.rem ∧ s.plat.admits s.enc.src = true ∧ s.plat.admits (s.addr s.enc.src 1) = true ∧
      s.plat.admits (s.addr s.enc.src 2) = true ∧ s.plat.admits s.enc.dst = true ∧
      s.plat.admits (s.addr s.enc.dst 1) = true ∧ s.plat.admits (s.addr s.enc.dst 2) = true ∧
      s.plat.admits (s.addr s.enc.dst 3) = true := by decide

theorem test_hyp_EncT2EncodesTwoBytes :
    let s := encAt [1#8, 2#8]
    s.enc.busy = true ∧ s.enc.phase = .read1 ∧ s.enc.rem = 2 ∧ s.plat.admits s.enc.src = true ∧ s.plat.admits (s.addr s.enc.src 1) = true ∧
      s.plat.admits s.enc.dst = true ∧ s.plat.admits (s.addr s.enc.dst 1) = true ∧
      s.plat.admits (s.addr s.enc.dst 2) = true ∧ s.plat.admits (s.addr s.enc.dst 3) = true := by decide

theorem test_hyp_EncT1EncodesOneByte :
    let s := encAt [1#8]
    s.enc.busy = true ∧ s.enc.phase = .read1 ∧ s.enc.rem = 1 ∧ s.plat.admits s.enc.src = true ∧ s.plat.admits s.enc.dst = true ∧
      s.plat.admits (s.addr s.enc.dst 1) = true ∧ s.plat.admits (s.addr s.enc.dst 2) = true ∧
      s.plat.admits (s.addr s.enc.dst 3) = true := by decide

theorem test_hyp_EncT0Terminates :
    let s := encAt []
    s.enc.busy = true ∧ s.enc.phase = .read1 ∧ s.enc.rem = 0 ∧ s.plat.admits s.enc.dst = true := by decide

theorem test_hyp_EncoderFrame :
    runs (exec .encStart (encCmd [])) = true ∧ runs (exec .encG3 (encAt [1#8, 2#8, 3#8])) = true ∧
      runs (exec .encT2 (encAt [1#8, 2#8])) = true ∧ runs (exec .encT1 (encAt [1#8])) = true ∧
      runs (exec .encT0 (encAt [])) = true := by decide

theorem test_hyp_OneEncoderActionEnabled : (encAt [1#8]).enc.busy = true ∧ (encAt [1#8]).enc.phase = .read1 := by decide

/-! ## Witnesses: the decoder -/

/-- A two-byte memory with no terminator in it. -/
def noNul : State :=
  { State.reset with plat := { aw := 1, holes := [] }, mem := [(0, 0x41#8), (1, 0x41#8)] }

theorem noNul_bytes : ∀ a, a < 2 ^ noNul.plat.aw → noNul.mem.get a ≠ NUL := by decide

theorem test_hyp_DecStartAccepts :
    (let s := decCmd [0x54#8]
     s.io.decStart = true ∧ s.dec.busy = false ∧ strLen s s.io.decSrc = some 1 ∧
       (decViews s.io.decDest s.io.decSrc 1).Allowed s (encRunning s)) ∧
    (let s := noNul.withIo { noNul.io with decStart := true }
     s.io.decStart = true ∧ s.dec.busy = false ∧ strLen s s.io.decSrc = none ∧ s.enc.busy = false) ∧
    (decAt []).dec.busy = true ∧ tiny.io.decStart = false := by
  simp only [Views.Allowed]
  decide

theorem test_hyp_DecFetchClassifies :
    [0#2, 1#2, 2#2, 3#2].map (fun k =>
      let s := tiny.withDec { tiny.dec with k := k }
      (s.dec.k.toNat, s.plat.admits (s.addr s.dec.src s.dec.k.toNat))) =
    [(0, true), (1, true), (2, true), (3, true)] := by decide

theorem test_hyp_DecEmitsWriteOneByte : (decAt []).plat.admits (decAt []).dec.dst = true := by decide

theorem test_hyp_DecEnd0Finishes :
    [decAt [], decAt [0x3D#8]].all (fun s =>
      s.dec.busy && s.dec.phase == .read1 && s.plat.admits (s.addr s.dec.src 0) && !isData (classify (s.mem.get (s.addr s.dec.src 0)))) = true := by decide

theorem test_hyp_DecFailBFails :
    [decAt [0x54#8], decAt [0x54#8, 0x3D#8]].all (fun s =>
      s.dec.busy && s.dec.phase == .read1 && s.plat.admits (s.addr s.dec.src 0) && classify (s.mem.get (s.addr s.dec.src 0)) == .data 19#6 &&
        s.plat.admits (s.addr s.dec.src 1) && !isData (classify (s.mem.get (s.addr s.dec.src 1)))) = true := by decide

/-- The hypotheses of `TwoData`, as one condition. -/
def twoData (s : State) (va vb : Sextet) : Bool :=
  s.plat.admits (s.addr s.dec.src 0) && classify (s.mem.get (s.addr s.dec.src 0)) == .data va &&
    s.plat.admits (s.addr s.dec.src 1) && classify (s.mem.get (s.addr s.dec.src 1)) == .data vb && s.plat.admits s.dec.dst

/-- The hypotheses of `LaterChar`, as one condition. -/
def laterChar (s : State) (va vb : Sextet) (k : Nat) (x : CharClass) : Bool :=
  s.plat.admits (s.addr s.dec.src k) && classify ((memAfterByte1 s va vb).get (s.addr s.dec.src k)) == x

theorem twoData_iff {s : State} {va vb : Sextet} : twoData s va vb = true ↔ TwoData s va vb := by
  simp [twoData, TwoData, and_assoc]

theorem laterChar_iff {s : State} {va vb : Sextet} {k : Nat} {x : CharClass} :
    laterChar s va vb k x = true ↔ LaterChar s va vb k x := by
  simp [laterChar, LaterChar]

theorem test_hyp_DecFailCFails :
    let s := decAt [0x54#8, 0x57#8]
    s.dec.busy = true ∧ s.dec.phase = .read1 ∧ TwoData s 19#6 22#6 ∧ LaterChar s 19#6 22#6 2 .notB64 := by
  simp only [← twoData_iff, ← laterChar_iff]
  decide

theorem test_hyp_DecFailDFails :
    let s := decAt [0x54#8, 0x57#8, 0x45#8]
    s.dec.busy = true ∧ s.dec.phase = .read1 ∧ TwoData s 19#6 22#6 ∧ LaterChar s 19#6 22#6 2 (.data 4#6) ∧ LaterChar s 19#6 22#6 3 .notB64 := by
  simp only [← twoData_iff, ← laterChar_iff]
  decide

theorem test_hyp_DecFailDPFails :
    let s := decAt [0x54#8, 0x57#8, 0x3D#8]
    s.dec.busy = true ∧ s.dec.phase = .read1 ∧ TwoData s 19#6 22#6 ∧ LaterChar s 19#6 22#6 2 .pad ∧ LaterChar s 19#6 22#6 3 .notB64 := by
  simp only [← twoData_iff, ← laterChar_iff]
  decide

theorem test_hyp_DecFailPDFails :
    let s := decAt [0x54#8, 0x57#8, 0x3D#8, 0x45#8]
    s.dec.busy = true ∧ s.dec.phase = .read1 ∧ TwoData s 19#6 22#6 ∧ LaterChar s 19#6 22#6 2 .pad ∧ LaterChar s 19#6 22#6 3 (.data 4#6) := by
  simp only [← twoData_iff, ← laterChar_iff]
  decide

theorem test_hyp_DecEnd1Finishes :
    let s := decAt [0x54#8, 0x51#8, 0x3D#8, 0x3D#8]
    s.dec.busy = true ∧ s.dec.phase = .read1 ∧ TwoData s 19#6 16#6 ∧ LaterChar s 19#6 16#6 2 .pad ∧ LaterChar s 19#6 16#6 3 .pad := by
  simp only [← twoData_iff, ← laterChar_iff]
  decide

theorem test_hyp_DecEnd2Finishes :
    let s := decAt [0x54#8, 0x57#8, 0x45#8, 0x3D#8]
    s.dec.busy = true ∧ s.dec.phase = .read1 ∧ TwoData s 19#6 22#6 ∧ LaterChar s 19#6 22#6 2 (.data 4#6) ∧ LaterChar s 19#6 22#6 3 .pad ∧
      s.plat.admits (s.addr s.dec.dst 1) = true := by
  simp only [← twoData_iff, ← laterChar_iff]
  decide

theorem test_hyp_DecFullDecodesAGroup :
    let s := decAt [0x54#8, 0x57#8, 0x46#8, 0x75#8]
    s.dec.busy = true ∧ s.dec.phase = .read1 ∧ TwoData s 19#6 22#6 ∧ LaterChar s 19#6 22#6 2 (.data 5#6) ∧ LaterChar s 19#6 22#6 3 (.data 46#6) ∧
      s.plat.admits (s.addr s.dec.dst 1) = true ∧ s.plat.admits (s.addr (s.addr s.dec.dst 1) 1) = true := by
  simp only [← twoData_iff, ← laterChar_iff]
  decide

/-- One state for each row of the decoder that runs in it. -/
def decRuns : List (Instr × State) :=
  [(.decStart, decCmd []), (.decEnd0, decAt []), (.decFailB, decAt [0x54#8]), (.decFailC, decAt [0x54#8, 0x57#8]),
    (.decFailD, decAt [0x54#8, 0x57#8, 0x45#8]), (.decFailDP, decAt [0x54#8, 0x57#8, 0x3D#8]),
    (.decFailPD, decAt [0x54#8, 0x57#8, 0x3D#8, 0x45#8]), (.decEnd1, decAt [0x54#8, 0x51#8, 0x3D#8, 0x3D#8]),
    (.decEnd2, decAt [0x54#8, 0x57#8, 0x45#8, 0x3D#8]), (.decFull, decAt [0x54#8, 0x57#8, 0x46#8, 0x75#8]),
    (.decFetch 0, decAt []), (.decShift 63#6, decAt []), (.decEmit1, decAt []), (.decEmit2, decAt [])]

theorem test_hyp_DecoderFrame : decRuns.all (fun p => runs (exec p.1 p.2)) = true := by decide

theorem test_hyp_OneDecoderActionEnabled :
    (decAt [0x54#8]).dec.busy = true ∧ (decAt [0x54#8]).dec.phase = .read1 ∧ decGroupWord (decAt [0x54#8]) = .ok 0b00100000#8 := by decide

theorem test_hyp_MalformedInputEntry : ((decRuns.drop 2).take 5).all (fun p => runs (exec p.1 p.2)) = true := by decide

/-- Each of the five, and a whole `DECODE` of `"T"`, takes the flag from 0 to 1. -/
theorem test_hyp_OnlyFiveActionsRaiseMalformedInput :
    ((decRuns.drop 2).take 5 ++ [(Instr.decode, decCmd [0x54#8])]).all (fun p : Instr × State =>
      !p.2.dec.fail && (nextOf (exec p.1 p.2)).any (fun t : State => t.dec.fail)) = true := by decide

/-- The decoder done while the encoder runs. -/
def heldState : State :=
  (encAt [0x4D#8]).withDec { tiny.dec with done := true, endAddr := 0x41 }

/-- The encoder done while the decoder runs. -/
def heldEnc : State :=
  (decAt [0x54#8]).withEnc { tiny.enc with done := true, endAddr := 0x44 }

theorem test_hyp_ResultsAreHeld_dec :
    heldState.Inv ∧ heldState.dec.done = true ∧ heldState.io.rst = false ∧ heldState.request = [] ∧
      heldState.io.decStart = false ∧ runs (step heldState) = true := by decide

theorem test_hyp_ResultsAreHeld_enc :
    heldEnc.Inv ∧ heldEnc.enc.done = true ∧ heldEnc.io.rst = false ∧ heldEnc.request = [] ∧ heldEnc.io.encStart = false ∧
      runs (step heldEnc) = true := by decide

/-! ## Witnesses: whole operations -/

/-- With every address of an eight-bit machine backed, every view that fits is admitted. -/
theorem admitted_of_fits {s : State} {v : Span} (hp : s.plat = tiny.plat) (hf : v.fits s.plat.aw = true) :
    v.Admitted s.plat := by
  intro a _ h
  simp only [Span.fits, hp, decide_eq_true_eq] at hf
  have ha : a < 2 ^ tiny.plat.aw := by omega
  rw [hp]
  simp only [Platform.admits, Bool.and_eq_true, decide_eq_true_eq]
  exact ⟨ha, rfl⟩

/-- Four of the caller's guarantees are one condition; memory behind every address follows on a machine with no hole. -/
theorem guaranteed_of {s : State} {v : Views} {other : Option Views} (hp : s.plat = tiny.plat)
    (h : (v.src.fits s.plat.aw && v.dst.fits s.plat.aw && !v.src.meets v.dst && !other.any (fun w => v.conflict w)) = true) :
    Views.Guaranteed s v other := by
  simp only [Bool.and_eq_true, Bool.not_eq_true'] at h
  exact ⟨⟨h.1.1.1, h.1.1.2, h.1.2, h.2⟩, admitted_of_fits hp h.1.1.1, admitted_of_fits hp h.1.1.2⟩

theorem test_hyp_EncodeWritesTheText :
    let s := encCmd [0x4D#8, 0x61#8, 0x6E#8, 0x79#8]
    s.enc.busy = false ∧ s.mem.wf = true ∧
      Views.Guaranteed s (encViews s.io.encDest s.io.encSrc s.io.encSize) (decRunning s) :=
  ⟨by decide, by decide, guaranteed_of rfl (by decide)⟩

/-- The same at the top of memory: the terminator in the last byte, while the decoder runs elsewhere. -/
theorem test_hyp_EncodeWritesTheText_top :
    let s := (decAt []).withIo { tiny.io with encDest := 0xFF, encSrc := 0x80, encSize := 0 }
    s.enc.busy = false ∧ s.mem.wf = true ∧
      Views.Guaranteed s (encViews s.io.encDest s.io.encSrc s.io.encSize) (decRunning s) :=
  ⟨by decide, by decide, guaranteed_of rfl (by decide)⟩

theorem test_hyp_DecodeWritesTheBytes :
    let s := decCmd [0x54#8, 0x57#8, 0x46#8, 0x75#8]
    s.dec.busy = false ∧ s.mem.wf = true ∧ s.io.Fits s.plat.aw ∧ strLen s s.io.decSrc = some 4 ∧
      Views.Guaranteed s (decViews s.io.decDest s.io.decSrc 4) (encRunning s) :=
  ⟨by decide, by decide, by decide, by decide, guaranteed_of rfl (by decide)⟩

/-- The same with the destination's last byte the last byte of memory, so that the end pointer wraps to 0. -/
theorem test_hyp_DecodeWritesTheBytes_top :
    let s := (decCmd [0x54#8, 0x57#8, 0x46#8, 0x75#8]).withIo { tiny.io with decDest := 0xFD, decSrc := 0x10 }
    s.dec.busy = false ∧ s.mem.wf = true ∧ s.io.Fits s.plat.aw ∧ strLen s s.io.decSrc = some 4 ∧
      Views.Guaranteed s (decViews s.io.decDest s.io.decSrc 4) (encRunning s) :=
  ⟨by decide, by decide, by decide, by decide, guaranteed_of rfl (by decide)⟩

theorem test_hyp_DecodeOfEncodeIsTheSource :
    let s := encCmd [0x4D#8, 0x61#8]
    s.mem.wf = true ∧ s.io.Fits s.plat.aw ∧ 0x80 < 2 ^ s.plat.aw ∧ s.enc.busy = false ∧ s.dec.busy = false ∧
      ((nextOf (exec .encode s)).bind fun t =>
        nextOf (exec .decode { t with io := { t.io with decDest := 0x80, decSrc := s.io.encDest } })).isSome = true := by decide

theorem test_hyp_EncodeAgreesWithTheSteps :
    let s := encCmd [0x4D#8, 0x61#8]
    s.enc.busy = false ∧ s.io.encStart = true ∧ runs (exec .encode s) = true := by decide

theorem test_hyp_DecodeAgreesWithTheSteps :
    let s := decCmd [0x54#8]
    s.dec.busy = false ∧ s.io.decStart = true ∧ runs (exec .decode s) = true := by decide

theorem test_hyp_CommandToBusyUnitIsIgnored : (encAt []).enc.busy = true ∧ (decAt []).dec.busy = true := by decide

/-- A view one byte too long for the top, in the source and in the destination, of either operation; the last is a string that goes on
past the top and is terminated at address 0. -/
theorem test_hyp_OutsideContractIsRefused_wraps :
    (let s := tiny.withIo { tiny.io with encStart := true, encDest := 0x40, encSrc := 0xFE, encSize := 3 }
     let v := encViews s.io.encDest s.io.encSrc s.io.encSize
     s.enc.busy = false ∧ s.io.encStart = true ∧ v.src.lo + v.src.len = 2 ^ s.plat.aw + 1) ∧
    (let s := tiny.withIo { tiny.io with encStart := true, encDest := 0xFC, encSrc := 0x10, encSize := 1 }
     let v := encViews s.io.encDest s.io.encSrc s.io.encSize
     s.enc.busy = false ∧ s.io.encStart = true ∧ v.dst.lo + v.dst.len = 2 ^ s.plat.aw + 1) ∧
    (let s := (decCmd [0x54#8]).withIo { tiny.io with decStart := true, decDest := 0xFE, decSrc := 0x10 }
     s.dec.busy = false ∧ s.io.decStart = true ∧ strLen s s.io.decSrc = some 1 ∧
       2 ^ s.plat.aw < (decViews s.io.decDest s.io.decSrc 1).dst.lo + (decViews s.io.decDest s.io.decSrc 1).dst.len) ∧
    (let s := (put tiny 0xFF [0x54#8]).withIo { tiny.io with decStart := true, decDest := 0x40, decSrc := 0xFF }
     s.dec.busy = false ∧ s.io.decStart = true ∧ strLen s s.io.decSrc = some 1 ∧
       (decViews s.io.decDest s.io.decSrc 1).src.lo + (decViews s.io.decDest s.io.decSrc 1).src.len = 2 ^ s.plat.aw + 1) := by
  decide

/-- Views that fit and have exactly one address in common. -/
theorem test_hyp_OutsideContractIsRefused_overlap :
    (let s := tiny.withIo { tiny.io with encStart := true, encDest := 0xFB, encSrc := 0xFB, encSize := 1 }
     let v := encViews s.io.encDest s.io.encSrc s.io.encSize
     s.enc.busy = false ∧ s.io.encStart = true ∧ v.src.lo + v.src.len ≤ 2 ^ s.plat.aw ∧ v.dst.lo + v.dst.len ≤ 2 ^ s.plat.aw ∧
       v.src.Holds 0xFB ∧ v.dst.Holds 0xFB) ∧
    (let s := (decCmd [0x54#8]).withIo { tiny.io with decStart := true, decDest := 0x11, decSrc := 0x10 }
     let v := decViews s.io.decDest s.io.decSrc 1
     s.dec.busy = false ∧ s.io.decStart = true ∧ strLen s s.io.decSrc = some 1 ∧ v.src.lo + v.src.len ≤ 2 ^ s.plat.aw ∧
       v.dst.lo + v.dst.len ≤ 2 ^ s.plat.aw ∧ v.src.Holds 0x11 ∧ v.dst.Holds 0x11) := by
  simp only [Span.Holds]
  decide

/-- Views that fit and are apart, and one address of the destination is one of the other unit's running operation. -/
theorem test_hyp_OutsideContractIsRefused_conflict :
    (let s := (encCmd [1#8]).withDec { tiny.dec with busy := true, bufs := decViews 0x44 0x60 1 }
     let v := encViews s.io.encDest s.io.encSrc s.io.encSize
     s.enc.busy = false ∧ s.io.encStart = true ∧ v.src.lo + v.src.len ≤ 2 ^ s.plat.aw ∧ v.dst.lo + v.dst.len ≤ 2 ^ s.plat.aw ∧
       v.src.meets v.dst = false ∧ s.dec.busy = true ∧ v.dst.Holds 0x44 ∧ s.dec.bufs.dst.Holds 0x44) ∧
    (let s := (decCmd [0x54#8]).withEnc { tiny.enc with busy := true, bufs := encViews 0x60 0x42 1 }
     let v := decViews s.io.decDest s.io.decSrc 1
     s.dec.busy = false ∧ s.io.decStart = true ∧ strLen s s.io.decSrc = some 1 ∧ v.src.lo + v.src.len ≤ 2 ^ s.plat.aw ∧
       v.dst.lo + v.dst.len ≤ 2 ^ s.plat.aw ∧ v.src.meets v.dst = false ∧ s.enc.busy = true ∧ v.dst.Holds 0x42 ∧
       s.enc.bufs.src.Holds 0x42) := by
  simp only [Span.Holds]
  decide

theorem test_hyp_UnterminatedDecodeHasNoResult :
    noNul.dec.busy = false ∧ ∀ a, a < 2 ^ noNul.plat.aw → noNul.mem.get a ≠ NUL :=
  ⟨rfl, noNul_bytes⟩

theorem test_hyp_CommandFrame :
    runs (exec .encode (encCmd [0x4D#8])) = true ∧ runs (exec .decode (decCmd [0x54#8])) = true ∧
      strLen (decCmd [0x54#8]) 0x10 = some 1 := by decide

/-! ## Witnesses: the step -/

theorem test_hyp_StepRunsTheRequestedRow :
    let s := tiny.withRequest [0x05#8, 10#8]
    s.io.rst = false ∧ decode s.request = .ok (.alpha5, []) := by decide

theorem test_hyp_StepRunsTheEncoder :
    ([encAt [1#8, 2#8, 3#8], encAt [1#8, 2#8], encAt [1#8], encAt [], encCmd [], holed (encAt []) 0x40].all (fun s =>
      !s.io.rst && s.request.isEmpty && s.script.isEmpty && !s.dec.busy && !s.io.decStart) = true) ∧
    ((encCmd []).enc.busy = false ∧ (encCmd []).io.encStart = true) ∧
    (runs (exec .encG3 (encAt [1#8, 2#8, 3#8])) && runs (exec .encT2 (encAt [1#8, 2#8])) && runs (exec .encT1 (encAt [1#8])) &&
      runs (exec .encT0 (encAt []))) = true ∧
    (let s := holed (encAt []) 0x40
     s.enc.busy = true ∧ s.plat.admits (encNext s) = false) := by decide

theorem test_hyp_StepRunsTheDecoder :
    (((holed (decAt []) 0x10 :: decCmd [] :: decRuns.map (fun p => p.2)).all (fun s : State =>
      !s.io.rst && s.request.isEmpty && s.script.isEmpty && !s.enc.busy && !s.io.encStart)) = true) ∧
    ((decCmd []).dec.busy = false ∧ (decCmd []).io.decStart = true) ∧
    (decRuns.all (fun p => runs (exec p.1 p.2)) = true) ∧
    (let s := holed (decAt []) 0x10
     s.dec.busy = true ∧ s.plat.admits (decNext s) = false) := by decide

theorem test_hyp_StepIsOneAgentsStep :
    (heldState.io.rst = false ∧ heldState.request = [] ∧ enabled heldState ≠ [] ∧ runs (step heldState) = true) ∧
    (tiny.io.rst = false ∧ tiny.request = [] ∧ [Agent.host, .enc, .dec].all (fun x => !hasWork tiny x) = true) := by decide

/-- The encoder stuck at a read, the decoder at a fetch, the host at a store; one of them stuck with another free, and one alone. -/
theorem test_hyp_StuckUnitLetsTheOthersStep :
    (let s := (holed ((encAt [1#8]).withDec (decAt []).dec) 0x10).withScript [.store 0x10 0#8]
     s.io.rst = false ∧ s.request = [] ∧ s.enc.busy = true ∧ s.plat.admits (encNext s) = false ∧ s.dec.busy = true ∧
       s.plat.admits (decNext s) = false ∧ enabled s = [] ∧ stuckAt s .enc = some 0x10) ∧
    (let s := (holed (encAt [1#8]) 0x10).withScript [.store 0x11 0#8]
     s.io.rst = false ∧ s.request = [] ∧ stuckAt s .enc = some 0x10 ∧ enabled s ≠ []) := by decide

theorem test_hyp_HostMovesActOnPortsAndMemory :
    [HostMove.driveEnc true 0xFF 0xFF 0xFF, .driveDec true 0xFF 0xFF, .driveRst true, .store 0xFF 0#8].all (fun m =>
      let s := tiny.withScript [m]
      !s.io.rst && s.request.isEmpty && s.script == m :: [] && !s.enc.busy && !s.io.encStart && !s.dec.busy &&
        !s.io.decStart && decide (0xFF < 2 ^ s.plat.aw) && s.plat.admits 0xFF) = true := by decide

/-- With no move left, with each kind of move, with a store that is admitted and one that is not. -/
theorem test_hyp_ResetForcesBothUnitsIdle :
    ([[], [HostMove.driveRst false], [.driveEnc true 0x1FF 0 0], [.driveDec true 0x1FF 0], [.store 0x11 7#8],
        [.store 0x10 7#8]].all (fun l =>
      (holed ((encAt [1#8]).withIo { tiny.io with rst := true }) 0x10).withScript l |>.io.rst) = true) ∧
    (holed tiny 0x10).plat.admits 0x11 = true ∧ (holed tiny 0x10).plat.admits 0x10 = false := by decide

theorem test_hyp_StepKeepsTheInvariant : heldState.Inv ∧ runs (step heldState) = true := by decide

theorem test_hyp_StepKeepsTheParameters :
    (encAt [1#8]).enc.busy = true ∧ (nextOf (step (encAt [1#8]))).map (fun t => t.enc.busy) = some true ∧
      (decAt [0x54#8]).dec.busy = true ∧ (nextOf (step (decAt [0x54#8]))).map (fun t => t.dec.busy) = some true := by decide

/-- A command that both states accept. -/
theorem test_hyp_UnitsShareNoRegister :
    (let s := encCmd [1#8]
     let d : DecUnit := { tiny.dec with busy := true, bufs := decViews 0x80 0x90 1 }
     runs (exec .encStart s) = true ∧ runs (exec .encStart { s with dec := d }) = true) ∧
    (let s := decCmd [0x54#8]
     let e : EncUnit := { tiny.enc with busy := true, bufs := encViews 0x80 0x90 1 }
     runs (exec .decStart s) = true ∧ runs (exec .decStart { s with enc := e }) = true) := by decide

end Sys2Proof.Tests
end

section
/-!
The whole `ENCODE` as accesses of the encoder (00_scope.md R7; 40_encoder.md R76, R81; 70_reset_and_hazards.md R135): each part of R70 is a
chain of accesses that begins and ends between two groups, and the lengths of the chains add up to R135's count.
-/

namespace Sys2Proof.Machine

/-- The encoder is busy and stands between two groups, with `r` bytes still to encode. -/
def EncBetween (s : State) (r : Nat) : Prop :=
  s.enc.busy = true ∧ s.enc.phase = .read1 ∧ s.enc.rem = r

/-- The reads and writes of `r` source bytes without the terminator: every byte once, four characters for each group. -/
def encTextAccesses (r : Nat) : Nat :=
  r + 4 * ((r + 2) / 3)

theorem encLatch_between (s : State) : EncBetween (encLatch s) s.io.encSize := ⟨rfl, rfl, rfl⟩

theorem groupDone_between {s : State} {r : Nat} (h : EncBetween s r) (g : Group) (m : Memory) (x : Byte) (n r' : Nat) :
    EncBetween (groupDone s g m x n r') r' := ⟨h.1, h.2.1, rfl⟩

/-- A full group takes seven accesses and leaves three bytes fewer (R72). -/
theorem EncBetween.group {s t : State} {r : Nat} (hs : EncBetween s r) (hr : 3 ≤ r) (h : encGroup s = .ok t) :
    EncChain 7 s t ∧ EncBetween t (r - 3) := by
  obtain ⟨hb, hp, rfl⟩ := hs
  refine ⟨encGroup_chain hb hp hr h, ?_⟩
  obtain ⟨-, -, rfl⟩ := encGroup_ok.1 h
  exact groupDone_between ⟨hb, hp, rfl⟩ _ _ _ _ _

/-- The loop of R70 takes seven accesses for each of its groups. -/
theorem EncBetween.groups {n : Nat} {s t : State} {r : Nat} (hs : EncBetween s r) (hr : 3 * n ≤ r)
    (h : encGroups n s = .ok t) : EncChain (7 * n) s t ∧ EncBetween t (r - 3 * n) := by
  induction n generalizing s r with
  | zero => cases h; exact ⟨.nil _, hs⟩
  | succ n ih =>
    obtain ⟨u, hu, ht⟩ := encGroups_succ.1 h
    obtain ⟨hc, hsu⟩ := hs.group (by omega) hu
    obtain ⟨hc', hst⟩ := ih hsu (by omega) ht
    rw [show 7 * (n + 1) = 7 + 7 * n by omega, show r - 3 * (n + 1) = r - 3 - 3 * n by omega]
    exact ⟨hc.append hc', hst⟩

/-- The tail of R70 takes six accesses for two bytes, five for one and none for none, and leaves no byte (R73, R74). -/
theorem EncBetween.tail {s t : State} {r : Nat} (hs : EncBetween s r) (hr : r < 3) (h : encTail s = .ok t) :
    EncChain (encTextAccesses r) s t ∧ EncBetween t 0 := by
  obtain ⟨hb, hp, rfl⟩ := hs
  rcases encTail_ok.1 h with ⟨h2, h⟩ | ⟨h1, h⟩ | ⟨h2, h1, rfl⟩
  · rw [h2]
    refine ⟨encTail2_chain hb hp h2 h, ?_⟩
    obtain ⟨-, -, rfl⟩ := encTail2_ok.1 h
    exact groupDone_between ⟨hb, hp, rfl⟩ _ _ _ _ _
  · rw [h1]
    refine ⟨encTail1_chain hb hp h1 h, ?_⟩
    obtain ⟨-, -, rfl⟩ := encTail1_ok.1 h
    exact groupDone_between ⟨hb, hp, rfl⟩ _ _ _ _ _
  · have h0 : t.enc.rem = 0 := by omega
    rw [h0]
    exact ⟨.nil _, hb, hp, h0⟩

/-- `ENCODE` from its first line to its last is as many accesses as R135 counts, and leaves the encoder idle. -/
theorem EncBetween.whole {s t : State} {r : Nat} (hs : EncBetween s r) (h : encodeWhole s = .ok t) :
    EncChain (encTextAccesses r + 1) s t ∧ t.enc.busy = false := by
  obtain ⟨u, v, hu, hv, ht⟩ := encodeWhole_ok.1 h
  rw [show s.enc.rem = r from hs.2.2] at hu
  obtain ⟨hcu, hsu⟩ := hs.groups (Nat.mul_div_le r 3) hu
  obtain ⟨hcv, hb, hp, h0⟩ := hsu.tail (by omega) hv
  have hct := encFinish_chain hb hp h0 ht
  have hn : encTextAccesses r + 1 = 7 * (r / 3) + encTextAccesses (r - 3 * (r / 3)) + 1 := by
    unfold encTextAccesses; omega
  rw [hn]
  obtain ⟨-, rfl⟩ := encFinish_ok.1 ht
  exact ⟨(hcu.append hcv).append hct, rfl⟩

/-- A command on the ports of an idle encoder that the contract allows is latched (R71). -/
theorem execEncStart_allowed {s : State} (hs : s.io.encStart = true) (hb : s.enc.busy = false)
    (ha : (encCommandViews s).Allowed s (decRunning s)) : execEncStart s = .next (encLatch s) := by
  simp [execEncStart, hs, hb, encAccept_ok.2 ⟨ha, rfl⟩]

/-- Settles O43: the whole operation is one chain of accesses, of exactly the length allowed. -/
theorem encodeAgreesWithTheSteps : Obligations.EncodeAgreesWithTheSteps := by
  intro s t hb hs h
  rcases execEncode_ok.1 h with ⟨hb', -⟩ | ⟨-, ha, ht⟩
  · exact absurd (hb'.symm.trans hb) (by decide)
  · obtain ⟨hc, hbt⟩ := (encLatch_between s).whole ht
    rw [encTextAccesses, Nat.add_assoc] at hc
    exact ⟨encLatch s, execEncStart_allowed hs hb ha, hc.runUnit (k := 0), hbt⟩

end Sys2Proof.Machine
end

section
/-!
The whole `DECODE` as accesses of the decoder (00_scope.md R7; 41_decoder.md R100, R106): each pass of R85's loop is a chain of accesses,
and a pass that goes on leaves the decoder between two groups.
-/

namespace Sys2Proof.Machine

/-- The decoder is busy and stands between two groups. -/
def DecBetween (s : State) : Prop :=
  s.dec.busy = true ∧ s.dec.phase = .read1

theorem decLatch_between (s : State) : DecBetween (decLatch s) := ⟨rfl, rfl⟩

/-- A pass leaves the place in the group, which only the accesses use, and the remembered buffers. -/
theorem GroupPass.keeps_place {s t : State} {b : Bool} (h : GroupPass s t b) :
    t.dec.phase = s.dec.phase ∧ t.dec.bufs = s.dec.bufs := by
  cases h with
  | end0 h => obtain ⟨-, -, rfl⟩ := decEnd0_ok.1 h; exact ⟨rfl, rfl⟩
  | failB h => obtain ⟨_, -, -, -, -, rfl⟩ := decFailB_ok.1 h; exact ⟨rfl, rfl⟩
  | failC h => obtain ⟨_, _, -, -, -, rfl⟩ := decFailC_ok.1 h; exact ⟨rfl, rfl⟩
  | failD h => obtain ⟨_, _, _, -, -, -, rfl⟩ := decFailD_ok.1 h; exact ⟨rfl, rfl⟩
  | failDP h => obtain ⟨_, _, -, -, -, rfl⟩ := decFailDP_ok.1 h; exact ⟨rfl, rfl⟩
  | failPD h => obtain ⟨_, _, -, -, -, rfl⟩ := decFailPD_ok.1 h; exact ⟨rfl, rfl⟩
  | end1 h => obtain ⟨_, _, -, -, -, rfl⟩ := decEnd1_ok.1 h; exact ⟨rfl, rfl⟩
  | end2 h => obtain ⟨_, _, _, -, -, -, -, rfl⟩ := decEnd2_ok.1 h; exact ⟨rfl, rfl⟩
  | full h => obtain ⟨_, _, _, _, -, -, -, -, -, rfl⟩ := decFull_ok.1 h; exact ⟨rfl, rfl⟩

/-- The loop of R85 is a chain of accesses and leaves the decoder idle. -/
theorem DecBetween.loop {n : Nat} {s t : State} (hs : DecBetween s) (h : decodeLoop n s = .ok t) :
    ∃ k, DecChain k s t ∧ t.dec.busy = false := by
  induction n generalizing s with
  | zero => exact nomatch h
  | succ n ih =>
    obtain ⟨hb, hp⟩ := hs
    rcases decodeLoop_succ.1 h with hg | ⟨u, hg, ht⟩
    · obtain ⟨k, hc⟩ := hg.chain hb hp
      exact ⟨k, hc, hg.busy_after hb⟩
    · obtain ⟨k, hc⟩ := hg.chain hb hp
      obtain ⟨k', hc', hbt⟩ := ih ⟨hg.busy_after hb, hg.keeps_place.1.trans hp⟩ ht
      exact ⟨k + k', hc.append hc', hbt⟩

/-- A terminated command on the ports of an idle decoder that the contract allows is latched (R86). -/
theorem execDecStart_allowed {s : State} {n : Nat} (hs : s.io.decStart = true) (hb : s.dec.busy = false)
    (hn : strLen s s.io.decSrc = some n) (ha : (decViews s.io.decDest s.io.decSrc n).Allowed s (encRunning s)) :
    execDecStart s = .next (decLatch s) := by
  simp [execDecStart, hs, hb, (decAccept_some hn).2 ⟨ha, rfl⟩]

/-- Settles O44: the loop of the whole operation is one chain of accesses. -/
theorem decodeAgreesWithTheSteps : Obligations.DecodeAgreesWithTheSteps := by
  intro s t hb hs h
  rcases execDecode_ok.1 h with ⟨hb', -⟩ | ⟨-, n, hn, ha, ht⟩
  · exact absurd (hb'.symm.trans hb) (by decide)
  · obtain ⟨k, hc, hbt⟩ := (decLatch_between s).loop ht
    exact ⟨decLatch s, k, execDecStart_allowed hs hb hn ha, hc.runUnit (k := 0), hbt⟩

end Sys2Proof.Machine
end

section
/-!
A step as one agent's step (00_scope.md R8; 20_memory.md R32, R45; 60_exceptions.md R121, R122): which agent it is, and that memory changes
at most at that agent's next access.
-/

namespace Sys2Proof.Machine

theorem step_eq_outcomeOf (s : State) : step s = outcomeOf (select s) := by
  unfold step outcomeOf
  cases select s <;> rfl

/-- An operation settles a step exactly when it answers. -/
theorem outcomeOf_settle {r : Res State} {t : State} : outcomeOf (settle r) = .next t ↔ r = .ok t := by
  rw [← answer_eq_next]
  cases r <;> rfl

/-- Of the agents that can step one steps, after at most one draw of a free value. -/
theorem agentsStep_of_enabled {s : State} (h : enabled s ≠ []) :
    ∃ x ∈ enabled s, ∃ k ≤ 1, agentsStep s = agentStep (s.withFreeIx (s.freeIx + k)) x := by
  rcases agentsStep_cases s with ⟨h0, -⟩ | ⟨x, hx, e⟩ | ⟨x, hx, e⟩
  · exact absurd h0 h
  · exact ⟨x, hx, 0, Nat.zero_le 1, e⟩
  · exact ⟨x, hx, 1, Nat.le_refl 1, e⟩

theorem hasWork_withFreeIx (s : State) (k : Nat) (x : Agent) : hasWork (s.withFreeIx k) x = hasWork s x := by
  cases x <;> rfl

theorem nextAccess_withFreeIx (s : State) (k : Nat) (x : Agent) : nextAccess (s.withFreeIx k) x = nextAccess s x := by
  cases x <;> rfl

/-- A memory that is unchanged, or changed by one write elsewhere, holds the same byte. -/
theorem Memory.get_of_write {m m' : Memory} {a b : Nat} (h : m' = m ∨ ∃ v, m' = m.set a v) (hne : b ≠ a) :
    m'.get b = m.get b := by
  rcases h with rfl | ⟨v, rfl⟩
  · rfl
  · exact Memory.get_set_other _ _ _ _ hne

theorem hostStep_mem {s t : State} {b : Nat} (h : hostStep s = .ok t) (hb : nextAccess s .host ≠ some b) :
    t.mem.get b = s.mem.get b := by
  rcases hostStep_ok h with rfl | ⟨m, rest, hs, hm⟩
  · rfl
  · rcases hostMove_ok hm with ⟨p, rfl⟩ | ⟨a, v, rfl, -, rfl⟩
    · rfl
    · have hne : b ≠ a := fun e => hb (by simp [nextAccess, hs, e])
      exact Memory.get_set_other _ _ _ _ hne

theorem execEncStart_mem {s t : State} (h : execEncStart s = .next t) : t.mem = s.mem := by
  rcases execEncStart_next h with rfl | ⟨-, -, rfl⟩ <;> rfl

theorem execDecStart_mem {s t : State} (h : execDecStart s = .next t) : t.mem = s.mem := by
  rcases execDecStart_next h with rfl | ⟨-, rfl⟩ <;> rfl

/-- The step of an agent that has something to do changes memory at most at its next access (R32, R45). -/
theorem agentStep_mem {s t : State} {x : Agent} {b : Nat} (hw : hasWork s x = true)
    (h : outcomeOf (agentStep s x) = .next t) (hb : nextAccess s x ≠ some b) : t.mem.get b = s.mem.get b := by
  cases x with
  | host => exact hostStep_mem (outcomeOf_settle.1 h) hb
  | enc =>
    cases hy : s.enc.busy with
    | true =>
      rw [agentStep_encBusy hy] at h
      obtain ⟨-, rfl⟩ := encAccess_ok.1 (outcomeOf_settle.1 h)
      exact Memory.get_of_write (encAccessed_mem s) fun e => hb (by simp [nextAccess, hy, e])
    | false =>
      rw [agentStep_encStart hy (by simpa [hasWork, hy] using hw)] at h
      rw [execEncStart_mem h]
  | dec =>
    cases hy : s.dec.busy with
    | true =>
      rw [agentStep_decBusy hy] at h
      obtain ⟨-, rfl⟩ := decAccess_ok.1 (outcomeOf_settle.1 h)
      exact Memory.get_of_write (decAccessed_mem s) fun e => hb (by simp [nextAccess, hy, e])
    | false =>
      rw [agentStep_decStart hy (by simpa [hasWork, hy] using hw)] at h
      rw [execDecStart_mem h]

/-- With no agent that has anything to do, the agents' step settles in the same state (R122). -/
theorem agentsStep_idle {s : State} (h : ∀ x, hasWork s x = false) : agentsStep s = .settled s := by
  have hnone : ∀ x, hasWork s x ≠ true := fun x hw => Bool.false_ne_true ((h x).symm.trans hw)
  rcases agentsStep_cases s with ⟨-, e⟩ | ⟨x, hx, -⟩ | ⟨x, hx, -⟩
  · rcases nobodySteps_cases s with ⟨-, e'⟩ | ⟨x, a, ha, -⟩
    · exact e.trans e'
    · exact absurd (stuckAt_some.1 ha).1 (hnone x)
  · exact absurd (mem_enabled.1 hx).1 (hnone x)
  · exact absurd (mem_enabled.1 hx).1 (hnone x)

/-- Settles O52, by the agent that `agentsStep` picks. -/
theorem stepIsOneAgentsStep : Obligations.StepIsOneAgentsStep := by
  intro s hr hq
  have e : step s = outcomeOf (agentsStep s) := by rw [step_eq_outcomeOf, select_agents hr hq]
  constructor
  · intro hn
    obtain ⟨x, hx, k, hk, ha⟩ := agentsStep_of_enabled hn
    have ex : step s = outcomeOf (agentStep (s.withFreeIx (s.freeIx + k)) x) := by rw [e, ha]
    have hw := (hasWork_withFreeIx s (s.freeIx + k) x).trans (mem_enabled.1 hx).1
    refine ⟨x, hx, k, hk, ex, fun t ht b hb => ?_⟩
    exact agentStep_mem (s := s.withFreeIx (s.freeIx + k)) hw (ex.symm.trans ht) fun hn => hb ((nextAccess_withFreeIx s _ x).symm.trans hn)
  · intro h
    rw [e, agentsStep_idle h]
    rfl

end Sys2Proof.Machine
end

section
/-!
The parameters of a run (00_scope.md R4; 10_state.md R10) and the remembered buffers of a running operation (70_reset_and_hazards.md R130):
what each row and each access keeps of them, composed over everything a step can be.
-/

namespace Sys2Proof.Machine

/-- The platform and both units are the same. -/
structure SameUnits (s t : State) : Prop where
  plat : t.plat = s.plat
  enc : t.enc = s.enc
  dec : t.dec = s.dec

/-- The platform is the same, and a unit that is busy before and after remembers the same buffers. -/
structure KeepsParameters (s t : State) : Prop where
  plat : t.plat = s.plat
  enc : s.enc.busy = true → t.enc.busy = true → t.enc.bufs = s.enc.bufs
  dec : s.dec.busy = true → t.dec.busy = true → t.dec.bufs = s.dec.bufs

theorem SameUnits.keepsParameters {s t : State} (h : SameUnits s t) : KeepsParameters s t :=
  ⟨h.plat, fun _ _ => by rw [h.enc], fun _ _ => by rw [h.dec]⟩

/-- What leaves the platform and both units may come before. -/
theorem KeepsParameters.after_same {s t u : State} (h : KeepsParameters t u) (hs : SameUnits s t) : KeepsParameters s u := by
  obtain ⟨plat, enc, dec⟩ := h
  exact ⟨plat.trans hs.plat, hs.enc ▸ enc, hs.dec ▸ dec⟩

/-- What leaves the platform and both units may come after. -/
theorem KeepsParameters.then_same {s t u : State} (h : KeepsParameters s t) (hs : SameUnits t u) : KeepsParameters s u := by
  obtain ⟨plat, enc, dec⟩ := h
  exact ⟨hs.plat.trans plat, hs.enc ▸ enc, hs.dec ▸ dec⟩

/-- An operation of the encoder needs to keep its own buffers only, and only where the unit was busy. -/
theorem KeepsParameters.of_enc {s t : State} (hk : EncKeeps s t) (h : s.enc.busy = true → t.enc.bufs = s.enc.bufs) :
    KeepsParameters s t :=
  ⟨hk.plat, fun hb _ => h hb, fun _ _ => by rw [hk.dec]⟩

/-- An operation of the decoder needs to keep its own buffers only, and only where the unit was busy. -/
theorem KeepsParameters.of_dec {s t : State} (hk : DecKeeps s t) (h : s.dec.busy = true → t.dec.bufs = s.dec.bufs) :
    KeepsParameters s t :=
  ⟨hk.plat, fun _ _ => by rw [hk.enc], fun hb _ => h hb⟩

theorem KeepsParameters.refl (s : State) : KeepsParameters s s := ⟨rfl, fun _ _ => rfl, fun _ _ => rfl⟩

/-- A row run by itself keeps the parameters: only a command that finds its unit idle has other buffers to remember. -/
theorem exec_keepsParameters {i : Instr} {s t : State} (h : exec i s = .next t) : KeepsParameters s t := by
  have hm := exec_meaning i s
  generalize exec i s = r at hm h
  have pass : ∀ {b : Bool}, GroupPass s t b → KeepsParameters s t := fun g => .of_dec g.keeps fun _ => g.keeps_place.2
  cases hm with
  | encode =>
    rcases execEncode_ok.1 h with ⟨-, rfl⟩ | ⟨hi, -, -⟩
    exacts [.refl _, .of_enc (execEncode_keeps h) fun hb => by simp [hi] at hb]
  | decode =>
    rcases execDecode_ok.1 h with ⟨-, rfl⟩ | ⟨hi, -⟩
    exacts [.refl _, .of_dec (execDecode_keeps h) fun hb => by simp [hi] at hb]
  | encStart =>
    rcases execEncStart_next h with rfl | ⟨hi, -, rfl⟩
    exacts [.refl _, .of_enc (encLatch_keeps s) fun hb => by simp [hi] at hb]
  | decStart =>
    rcases execDecStart_next h with rfl | ⟨hi, rfl⟩
    exacts [.refl _, .of_dec (decLatch_keeps s) fun hb => by simp [hi] at hb]
  | encG3 =>
    have h := whenEncSelects_next h
    refine .of_enc (encGroup_keeps h) fun _ => ?_
    obtain ⟨-, -, rfl⟩ := encGroup_ok.1 h; rfl
  | encT2 =>
    have h := whenEncSelects_next h
    refine .of_enc (encTail2_keeps h) fun _ => ?_
    obtain ⟨-, -, rfl⟩ := encTail2_ok.1 h; rfl
  | encT1 =>
    have h := whenEncSelects_next h
    refine .of_enc (encTail1_keeps h) fun _ => ?_
    obtain ⟨-, -, rfl⟩ := encTail1_ok.1 h; rfl
  | encT0 =>
    have h := whenEncSelects_next h
    refine .of_enc (encFinish_keeps h) fun _ => ?_
    obtain ⟨-, rfl⟩ := encFinish_ok.1 h; rfl
  | decEnd0 => exact pass (.end0 (whenDecBusy_next h).2.2)
  | decFailB => exact pass (.failB (whenDecBusy_next h).2.2)
  | decFailC => exact pass (.failC (whenDecBusy_next h).2.2)
  | decFailD => exact pass (.failD (whenDecBusy_next h).2.2)
  | decFailDP => exact pass (.failDP (whenDecBusy_next h).2.2)
  | decFailPD => exact pass (.failPD (whenDecBusy_next h).2.2)
  | decEnd1 => exact pass (.end1 (whenDecBusy_next h).2.2)
  | decEnd2 => exact pass (.end2 (whenDecBusy_next h).2.2)
  | decFull => exact pass (.full (whenDecBusy_next h).2.2)
  | decFetch k =>
    obtain ⟨-, rfl⟩ := fetch_ok.1 (execDecFetch_next h).2
    exact .of_dec (fetched_keeps _ _ _) fun _ => rfl
  | decShift v => cases h; exact .of_dec (shift_keeps v s) fun _ => rfl
  | decEmit1 =>
    obtain ⟨-, rfl⟩ := emit1_ok.1 (answer_eq_next.1 h)
    exact ⟨rfl, fun _ _ => rfl, fun _ _ => rfl⟩
  | decEmit2 =>
    obtain ⟨-, rfl⟩ := emit2_ok.1 (answer_eq_next.1 h)
    exact ⟨rfl, fun _ _ => rfl, fun _ _ => rfl⟩
  | alpha i c => cases h; exact ⟨rfl, fun _ _ => rfl, fun _ _ => rfl⟩
  | rlut i x => cases h; exact ⟨rfl, fun _ _ => rfl, fun _ _ => rfl⟩

/-- An access of the encoder leaves the remembered buffers. -/
theorem encAccessed_bufs (s : State) : (encAccessed s).enc.bufs = s.enc.bufs := by
  unfold encAccessed
  cases s.enc.phase with
  | read1 =>
    dsimp only
    split
    · rfl
    · split <;> rfl
  | read2 a => dsimp only; split <;> rfl
  | read3 a b => rfl
  | write1 => rfl
  | write2 => rfl
  | write3 => simp [encGoOn]
  | write4 => simp [encGoOn, encAdvance]

/-- An access of the decoder leaves the remembered buffers. -/
theorem decAccessed_bufs (s : State) : (decAccessed s).dec.bufs = s.dec.bufs := by
  unfold decAccessed
  cases s.dec.phase with
  | read1 => dsimp only; split <;> rfl
  | read2 => dsimp only; split <;> rfl
  | write1 => rfl
  | read3 => dsimp only; split <;> rfl
  | read4 =>
    dsimp only
    split
    · split <;> rfl
    · split <;> rfl
    · rfl
  | write2 d => cases d <;> rfl
  | write3 v => rfl

/-- A move of the host leaves the platform and both units. -/
theorem hostStep_sameUnits {s t : State} (h : hostStep s = .ok t) : SameUnits s t := by
  rcases hostStep_ok h with rfl | ⟨m, rest, -, hm⟩
  · exact ⟨rfl, rfl, rfl⟩
  · rcases hostMove_ok hm with ⟨p, rfl⟩ | ⟨a, v, -, -, rfl⟩ <;> exact ⟨rfl, rfl, rfl⟩

theorem AgentRun.keepsParameters {s t : State} (h : AgentRun s t) : KeepsParameters s t := by
  cases h with
  | host h => exact (hostStep_sameUnits h).keepsParameters
  | encAccess _ h =>
    obtain ⟨-, rfl⟩ := encAccess_ok.1 h
    exact .of_enc (encAccessed_keeps s) fun _ => encAccessed_bufs s
  | encStart _ h => exact exec_keepsParameters h
  | decAccess _ h =>
    obtain ⟨-, rfl⟩ := decAccess_ok.1 h
    exact .of_dec (decAccessed_keeps s) fun _ => decAccessed_bufs s
  | decStart _ h => exact exec_keepsParameters h

/-- After a reset event no unit is busy, so only the platform is left to keep (R125). -/
theorem forceReset_keepsParameters (s : State) : KeepsParameters s (forceReset s) :=
  ⟨rfl, (fun _ hb => nomatch hb), fun _ hb => nomatch hb⟩

/-- Settles O59, by what a step that answers can be. -/
theorem stepKeepsTheParameters : Obligations.StepKeepsTheParameters := by
  intro s t h
  suffices hk : KeepsParameters s t from ⟨hk.plat, hk.enc, hk.dec⟩
  cases step_next h with
  | reset _ ht =>
    rcases ht with rfl | ht
    · exact forceReset_keepsParameters s
    · exact (forceReset_keepsParameters s).then_same (hostStep_sameUnits ht)
  | request i _ _ ht => exact (exec_keepsParameters ht).after_same ⟨rfl, rfl, rfl⟩
  | idle _ _ ht => exact ht ▸ .refl s
  | agent k _ _ ht => exact ht.keepsParameters.after_same ⟨rfl, rfl, rfl⟩

end Sys2Proof.Machine
end

section
/-!
The invariant taken apart by the component it speaks of (10_state.md R13 to R18, R22; 20_memory.md R30), and why every step keeps it: each
access of a busy unit does, and a row of a group action or a whole operation is a chain of such accesses.
-/

namespace Sys2Proof.Machine

/-! ## The parts -/

/-- What the invariant says of the encoder. -/
structure EncUnit.Legal (aw : Nat) (u : EncUnit) : Prop where
  fits : u.Fits aw
  control : u.busy = true → u.done = false
  idle : u.busy = false → u.phase = .read1
  needs : u.phase.needs ≤ u.rem

/-- What the invariant says of the decoder. -/
structure DecUnit.Legal (aw : Nat) (u : DecUnit) : Prop where
  fits : u.Fits aw
  control : u.busy = true → u.done = false
  failed : u.fail = true → u.done = true ∧ u.endAddr = 0
  idle : u.busy = false → u.phase = .read1

/-- What the invariant says of the memory. -/
structure Memory.Legal (aw : Nat) (m : Memory) : Prop where
  wf : m.wf = true
  within : ∀ c ∈ m, c.1 < 2 ^ aw

/-- The invariant, part by part. -/
structure State.Legal (s : State) : Prop where
  width : 1 ≤ s.plat.aw
  enc : s.enc.Legal s.plat.aw
  dec : s.dec.Legal s.plat.aw
  io : s.io.Fits s.plat.aw
  mem : Memory.Legal s.plat.aw s.mem

theorem inv_iff_legal {s : State} : s.Inv ↔ s.Legal := by
  constructor
  · rintro ⟨hw, he, hd, hio, ⟨hec, hdc, hf⟩, ⟨hei, hn, hdi⟩, hwf, hm⟩
    exact ⟨hw, ⟨he, fun hb => by simpa [hb] using hec, hei, hn⟩, ⟨hd, fun hb => by simpa [hb] using hdc, hf, hdi⟩, hio, hwf, hm⟩
  · rintro ⟨hw, ⟨he, hec, hei, hn⟩, ⟨hd, hdc, hf, hdi⟩, hio, hwf, hm⟩
    exact ⟨hw, he, hd, hio, ⟨fun h => by simp [hec h.1] at h, fun h => by simp [hdc h.1] at h, hf⟩, ⟨hei, hn, hdi⟩, hwf, hm⟩

/-- An operation of the encoder needs to keep the parts that are the encoder's and the memory's. -/
theorem State.Legal.of_enc {s t : State} (h : s.Legal) (hk : EncKeeps s t) (he : t.enc.Legal s.plat.aw)
    (hm : t.mem.Legal s.plat.aw) : t.Legal := by
  have hp := hk.plat
  exact ⟨hp ▸ h.width, hp ▸ he, hp ▸ hk.dec ▸ h.dec, hp ▸ hk.io ▸ h.io, hp ▸ hm⟩

/-- An operation of the decoder needs to keep the parts that are the decoder's and the memory's. -/
theorem State.Legal.of_dec {s t : State} (h : s.Legal) (hk : DecKeeps s t) (hd : t.dec.Legal s.plat.aw)
    (hm : t.mem.Legal s.plat.aw) : t.Legal := by
  have hp := hk.plat
  exact ⟨hp ▸ h.width, hp ▸ hk.enc ▸ h.enc, hp ▸ hd, hp ▸ hk.io ▸ h.io, hp ▸ hm⟩

/-- A write to an address that the memory admits keeps the memory's part. -/
theorem Memory.Legal.set {p : Platform} {m : Memory} {a : Nat} (h : m.Legal p.aw) (ha : p.admits a = true) (v : Byte) :
    (m.set a v).Legal p.aw := by
  refine ⟨Memory.wf_set a v h.wf, fun c hc => ?_⟩
  rcases Memory.mem_set hc with e | hc
  · exact e ▸ lt_of_admits ha
  · exact h.within c hc

theorem Memory.Legal.of_write {p : Platform} {m m' : Memory} {a : Nat} (h : m.Legal p.aw) (ha : p.admits a = true)
    (e : m' = m ∨ ∃ v, m' = m.set a v) : m'.Legal p.aw := by
  rcases e with rfl | ⟨v, rfl⟩
  · exact h
  · exact h.set ha v

/-! ## The encoder -/

/-- A busy encoder may stand at any place of a group that the bytes still to encode go as far as. -/
theorem EncUnit.Legal.goOn {aw : Nat} {u : EncUnit} (h : u.Legal aw) (hb : u.busy = true) (p : EncPhase) (g : Group)
    (hp : p.needs ≤ u.rem) : { u with g := g, phase := p }.Legal aw :=
  ⟨h.fits, h.control, fun hi => absurd (hb.symm.trans hi) (by decide), hp⟩

/-- Between two groups only the pointers and the count must fit. -/
theorem EncUnit.Legal.advance {aw : Nat} {u : EncUnit} (h : u.Legal aw) {src dst rem : Nat} (hs : src < 2 ^ aw)
    (hd : dst < 2 ^ aw) (hr : rem < 2 ^ aw) : { u with src := src, dst := dst, rem := rem, phase := .read1 }.Legal aw :=
  have ⟨_, _, _, hend⟩ := h.fits
  ⟨⟨hs, hd, hr, hend⟩, h.control, fun _ => rfl, Nat.zero_le _⟩

theorem EncUnit.Legal.complete {aw : Nat} {u : EncUnit} (h : u.Legal aw) (hp : u.phase = .read1) : u.complete.Legal aw :=
  have ⟨hsrc, hdst, hrem, _⟩ := h.fits
  ⟨⟨hsrc, hdst, hrem, hdst⟩, nofun, fun _ => hp, h.needs⟩

theorem EncUnit.Legal.accept {aw : Nat} {u : EncUnit} {p : Ports} (h : u.Legal aw) (hp : p.Fits aw) (v : Views) :
    (u.accept p v).Legal aw :=
  have ⟨hdest, hsrc, hsize, _, _⟩ := hp
  have ⟨_, _, _, hend⟩ := h.fits
  ⟨⟨hsrc, hdest, hsize, hend⟩, fun _ => rfl, nofun, Nat.zero_le _⟩

theorem lateWritten_addr (m : Nat) (s : State) (a : Nat) (v : Sextet) (p j : Nat) :
    (lateWritten m s a v).addr p j = s.addr p j := by
  unfold State.addr
  rw [(lateWritten_keeps m s a v).plat]

/-- The next access of a busy encoder keeps the encoder's part. -/
theorem encAccessed_enc_legal {s : State} (h : s.enc.Legal s.plat.aw) (hb : s.enc.busy = true) :
    (encAccessed s).enc.Legal s.plat.aw := by
  have hn := h.needs
  unfold encAccessed
  generalize hp : s.enc.phase = p at hn
  cases p with
  | read1 =>
    dsimp only
    split
    · exact h.complete hp
    · split
      · exact h.goOn hb .write1 _ (show 1 ≤ s.enc.rem by omega)
      · exact h.goOn hb (.read2 _) _ (show 2 ≤ s.enc.rem by omega)
  | read2 a =>
    change 2 ≤ s.enc.rem at hn
    dsimp only
    split
    · exact h.goOn hb .write1 _ (show 1 ≤ s.enc.rem by omega)
    · exact h.goOn hb (.read3 _ _) _ (show 3 ≤ s.enc.rem by omega)
  | read3 a b => exact h.goOn hb .write1 _ (show 1 ≤ s.enc.rem from Nat.le_trans (show 1 ≤ 3 by decide) hn)
  | write1 => exact h.goOn hb .write2 _ hn
  | write2 => exact h.goOn hb .write3 _ hn
  | write3 =>
    simp only [encGoOn, lateWritten_enc]
    exact h.goOn hb .write4 _ hn
  | write4 =>
    obtain ⟨-, -, hrem, -⟩ := h.fits
    simp only [encGoOn, encAdvance, State.withEnc_enc, lateWritten_enc, lateWritten_addr]
    exact h.advance (addr_lt _ _ _) (addr_lt _ _ _) (by omega)

/-- The next access of a busy encoder keeps the invariant. -/
theorem encAccessed_legal {s : State} (h : s.Legal) (hb : s.enc.busy = true) (ha : s.plat.admits (encNext s) = true) :
    (encAccessed s).Legal :=
  h.of_enc (encAccessed_keeps s) (encAccessed_enc_legal h.enc hb) (h.mem.of_write ha (encAccessed_mem s))

theorem EncChain.legal {n : Nat} {s t : State} (hc : EncChain n s t) (h : s.Legal) : t.Legal := by
  induction hc with
  | nil => exact h
  | cons hb ha _ ih => exact ih (encAccessed_legal h hb ha)

theorem encLatch_legal {s : State} (h : s.Legal) : (encLatch s).Legal :=
  h.of_enc (encLatch_keeps s) (h.enc.accept h.io _) h.mem

/-! ## The decoder -/

/-- A busy decoder shows no result, so that only its registers must fit. -/
theorem DecUnit.Legal.running {aw : Nat} {u : DecUnit} (hf : u.Fits aw) (hb : u.busy = true) (hd : u.done = false)
    (hx : u.fail = false) : u.Legal aw :=
  ⟨hf, fun _ => hd, fun h => absurd (hx.symm.trans h) (by decide), fun h => absurd (hb.symm.trans h) (by decide)⟩

/-- A decoder that has completed stands in no group, and shows a failure with end pointer 0. -/
theorem DecUnit.Legal.completed {aw : Nat} {u : DecUnit} (hf : u.Fits aw) (hb : u.busy = false) (hp : u.phase = .read1)
    (hx : u.fail = true → u.done = true ∧ u.endAddr = 0) : u.Legal aw :=
  ⟨hf, fun h => absurd (hb.symm.trans h) (by decide), hx, fun _ => hp⟩

/-- The group's own registers are free, and the destination must fit. -/
theorem DecUnit.Legal.work {aw : Nat} {u : DecUnit} (h : u.Legal aw) {dst : Nat} (hd : dst < 2 ^ aw) (sh : Group)
    (k : BitVec 2) (cpad : Bool) : { u with dst := dst, sh := sh, k := k, cpad := cpad }.Legal aw :=
  have ⟨hsrc, _, hend⟩ := h.fits
  ⟨⟨hsrc, hd, hend⟩, h.control, h.failed, h.idle⟩

theorem DecUnit.Legal.accept {aw : Nat} {u : DecUnit} {p : Ports} (h : u.Legal aw) (hp : p.Fits aw) (v : Views) :
    (u.accept p v).Legal aw :=
  have ⟨_, _, _, hdest, hsrc⟩ := hp
  have ⟨_, _, hend⟩ := h.fits
  .running ⟨hsrc, hdest, hend⟩ rfl rfl rfl

/-- A busy decoder shows no failure. -/
theorem DecUnit.Legal.not_failed {aw : Nat} {u : DecUnit} (h : u.Legal aw) (hb : u.busy = true) : u.fail = false := by
  by_contra hx
  have hd := (h.failed (by simpa using hx)).1
  exact absurd ((h.control hb).symm.trans hd) (by decide)

/-- The next access of a busy decoder keeps the decoder's part: the group goes on, or the operation ends, and then between two groups. -/
theorem decAccessed_dec_legal {s : State} (h : s.dec.Legal s.plat.aw) (hb : s.dec.busy = true) :
    (decAccessed s).dec.Legal s.plat.aw := by
  obtain ⟨hsrc, hdst, hend⟩ := h.fits
  have hd := h.control hb
  have hx := h.not_failed hb
  have h0 := Nat.two_pow_pos s.plat.aw
  have next : ∀ p k, s.addr p k < 2 ^ s.plat.aw := addr_lt s
  unfold decAccessed
  cases hp : s.dec.phase with
  | read1 =>
    dsimp only
    split
    · exact .running ⟨hsrc, hdst, hend⟩ hb hd hx
    · exact .completed ⟨hsrc, hdst, hdst⟩ rfl hp nofun
    · exact .completed ⟨hsrc, hdst, hdst⟩ rfl hp nofun
  | read2 =>
    dsimp only
    split
    · exact .running ⟨hsrc, hdst, hend⟩ hb hd hx
    · exact .completed ⟨hsrc, hdst, h0⟩ rfl rfl fun _ => ⟨rfl, rfl⟩
    · exact .completed ⟨hsrc, hdst, h0⟩ rfl rfl fun _ => ⟨rfl, rfl⟩
  | write1 => exact .running ⟨hsrc, next _ _, hend⟩ hb hd hx
  | read3 =>
    dsimp only
    split
    · exact .running ⟨hsrc, hdst, hend⟩ hb hd hx
    · exact .running ⟨hsrc, hdst, hend⟩ hb hd hx
    · exact .completed ⟨hsrc, hdst, h0⟩ rfl rfl fun _ => ⟨rfl, rfl⟩
  | read4 =>
    dsimp only
    split
    · split
      · exact .completed ⟨hsrc, hdst, h0⟩ rfl rfl fun _ => ⟨rfl, rfl⟩
      · exact .running ⟨hsrc, hdst, hend⟩ hb hd hx
    · split
      · exact .completed ⟨hsrc, hdst, hdst⟩ rfl rfl nofun
      · exact .running ⟨hsrc, hdst, hend⟩ hb hd hx
    · exact .completed ⟨hsrc, hdst, h0⟩ rfl rfl fun _ => ⟨rfl, rfl⟩
  | write2 d =>
    cases d with
    | none => exact .completed ⟨hsrc, next _ _, next _ _⟩ rfl rfl nofun
    | some v => exact .running ⟨hsrc, next _ _, hend⟩ hb hd hx
  | write3 v => exact .running ⟨next _ _, next _ _, hend⟩ hb hd hx

/-- The next access of a busy decoder keeps the invariant. -/
theorem decAccessed_legal {s : State} (h : s.Legal) (hb : s.dec.busy = true) (ha : s.plat.admits (decNext s) = true) :
    (decAccessed s).Legal :=
  h.of_dec (decAccessed_keeps s) (decAccessed_dec_legal h.dec hb) (h.mem.of_write ha (decAccessed_mem s))

theorem DecChain.legal {n : Nat} {s t : State} (hc : DecChain n s t) (h : s.Legal) : t.Legal := by
  induction hc with
  | nil => exact h
  | cons hb ha _ ih => exact ih (decAccessed_legal h hb ha)

theorem decLatch_legal {s : State} (h : s.Legal) : (decLatch s).Legal :=
  h.of_dec (decLatch_keeps s) (h.dec.accept h.io _) h.mem

/-- A sub-operation that writes one byte and moves the destination pointer keeps the invariant, whatever the decoder is doing. -/
theorem emit_legal {s t : State} {v : Byte} (h : s.Legal) (he : emit v s = .ok t) : t.Legal := by
  obtain ⟨ha, rfl⟩ := emit_ok.1 he
  exact h.of_dec ⟨rfl, rfl, rfl, rfl, rfl, rfl, rfl⟩ (h.dec.work (addr_lt _ _ _) _ _ _) (h.mem.set ha v)

/-! ## The rows -/

/-- A group action of the encoder that is a chain of accesses where it is selected keeps the invariant. -/
theorem State.Legal.encGroupAction {s t : State} {m : Nat} {body : State → Res State} (hs : s.Legal)
    (h : answer (whenEncSelects m s body) = .next t)
    (hc : s.enc.busy = true → s.enc.phase = .read1 → encM s.enc = m → body s = .ok t → ∃ n, EncChain n s t) : t.Legal := by
  obtain ⟨hb, hp, hm, h⟩ := whenEncSelects_ok.1 (answer_eq_next.1 h)
  obtain ⟨n, hc⟩ := hc hb hp hm h
  exact hc.legal hs

/-- A group action of the decoder, which is one pass of the loop of R85, keeps the invariant. -/
theorem State.Legal.decGroupAction {s t : State} {b : Bool} {body : State → Res State} (hs : s.Legal)
    (h : answer (whenDecBusy s body) = .next t) (hg : body s = .ok t → GroupPass s t b) : t.Legal := by
  obtain ⟨hb, hp, h⟩ := whenDecBusy_next h
  obtain ⟨n, hc⟩ := (hg h).chain hb hp
  exact hc.legal hs

/-- A row run by itself keeps the invariant: the group actions and the whole operations as chains of accesses. -/
theorem exec_legal {i : Instr} {s t : State} (hs : s.Legal) (h : exec i s = .next t) : t.Legal := by
  have hm := exec_meaning i s
  generalize exec i s = r at hm h
  cases hm with
  | encode =>
    rcases execEncode_ok.1 h with ⟨-, rfl⟩ | ⟨-, -, h⟩
    · exact hs
    · exact ((encLatch_between s).whole h).1.legal (encLatch_legal hs)
  | decode =>
    rcases execDecode_ok.1 h with ⟨-, rfl⟩ | ⟨-, n, -, -, h⟩
    · exact hs
    · obtain ⟨k, hc, -⟩ := (decLatch_between s).loop h
      exact hc.legal (decLatch_legal hs)
  | encStart =>
    rcases execEncStart_next h with rfl | ⟨-, -, rfl⟩
    exacts [hs, encLatch_legal hs]
  | decStart =>
    rcases execDecStart_next h with rfl | ⟨-, rfl⟩
    exacts [hs, decLatch_legal hs]
  | encG3 => exact hs.encGroupAction h fun hb hp hm h => ⟨_, encGroup_chain hb hp (by unfold encM at hm; omega) h⟩
  | encT2 => exact hs.encGroupAction h fun hb hp hm h => ⟨_, encTail2_chain hb hp (by unfold encM at hm; omega) h⟩
  | encT1 => exact hs.encGroupAction h fun hb hp hm h => ⟨_, encTail1_chain hb hp (by unfold encM at hm; omega) h⟩
  | encT0 => exact hs.encGroupAction h fun hb hp hm h => ⟨_, encFinish_chain hb hp (by unfold encM at hm; omega) h⟩
  | decEnd0 => exact hs.decGroupAction h .end0
  | decFailB => exact hs.decGroupAction h .failB
  | decFailC => exact hs.decGroupAction h .failC
  | decFailD => exact hs.decGroupAction h .failD
  | decFailDP => exact hs.decGroupAction h .failDP
  | decFailPD => exact hs.decGroupAction h .failPD
  | decEnd1 => exact hs.decGroupAction h .end1
  | decEnd2 => exact hs.decGroupAction h .end2
  | decFull => exact hs.decGroupAction h .full
  | decFetch k =>
    obtain ⟨-, rfl⟩ := fetch_ok.1 (execDecFetch_next h).2
    exact hs.of_dec (fetched_keeps _ _ _) (hs.dec.work hs.dec.fits.2.1 _ _ _) hs.mem
  | decShift v =>
    cases h
    exact hs.of_dec (shift_keeps v s) (hs.dec.work hs.dec.fits.2.1 _ _ _) hs.mem
  | decEmit1 => exact emit_legal hs (answer_eq_next.1 h)
  | decEmit2 => exact emit_legal hs (answer_eq_next.1 h)
  | alpha i c => cases h; exact hs.of_enc ⟨rfl, rfl, rfl, rfl, rfl, rfl, rfl⟩ hs.enc hs.mem
  | rlut i x => cases h; exact hs.of_dec ⟨rfl, rfl, rfl, rfl, rfl, rfl, rfl⟩ hs.dec hs.mem

/-! ## The host and reset -/

theorem toPort_lt (aw v : Nat) : toPort aw v < 2 ^ aw := Nat.mod_lt _ (Nat.two_pow_pos aw)

/-- A move of the host drives a port with as many bits as it has, or writes where memory is (10_state.md R22). -/
theorem hostMove_legal {s t : State} {m : HostMove} (hs : s.Legal) (h : hostMove s m = .ok t) : t.Legal := by
  obtain ⟨hw, he, hd, ⟨hed, hes, hez, hdd, hds⟩, hm⟩ := hs
  cases m with
  | driveEnc start dest src size =>
    cases h
    exact ⟨hw, he, hd, ⟨toPort_lt _ _, toPort_lt _ _, toPort_lt _ _, hdd, hds⟩, hm⟩
  | driveDec start dest src =>
    cases h
    exact ⟨hw, he, hd, ⟨hed, hes, hez, toPort_lt _ _, toPort_lt _ _⟩, hm⟩
  | driveRst level =>
    cases h
    exact ⟨hw, he, hd, ⟨hed, hes, hez, hdd, hds⟩, hm⟩
  | store a v =>
    obtain ⟨ha, rfl⟩ := writeByte_ok.1 h
    exact ⟨hw, he, hd, ⟨hed, hes, hez, hdd, hds⟩, hm.set ha v⟩

theorem hostStep_legal {s t : State} (hs : s.Legal) (h : hostStep s = .ok t) : t.Legal := by
  rcases hostStep_ok h with rfl | ⟨m, rest, -, hm⟩
  · exact hs
  · have hs' : (s.withScript rest).Legal := ⟨hs.width, hs.enc, hs.dec, hs.io, hs.mem⟩
    exact hostMove_legal hs' hm

/-- The free values that a reset event leaves have the registers' width (R27). -/
theorem forceReset_legal {s : State} (hs : s.Legal) : (forceReset s).Legal where
  width := hs.width
  enc := ⟨⟨BitVec.isLt _, BitVec.isLt _, BitVec.isLt _, BitVec.isLt _⟩, nofun, fun _ => rfl, Nat.zero_le _⟩
  dec := .completed ⟨BitVec.isLt _, BitVec.isLt _, BitVec.isLt _⟩ rfl rfl nofun
  io := hs.io
  mem := hs.mem

/-! ## Steps -/

theorem AgentRun.legal {s t : State} (h : AgentRun s t) (hs : s.Legal) : t.Legal := by
  cases h with
  | host h => exact hostStep_legal hs h
  | encAccess hb h =>
    obtain ⟨ha, rfl⟩ := encAccess_ok.1 h
    exact encAccessed_legal hs hb ha
  | encStart _ h => exact exec_legal hs h
  | decAccess hb h =>
    obtain ⟨ha, rfl⟩ := decAccess_ok.1 h
    exact decAccessed_legal hs hb ha
  | decStart _ h => exact exec_legal hs h

theorem step_legal {s t : State} (hs : s.Legal) (h : step s = .next t) : t.Legal := by
  cases step_next h with
  | reset _ ht =>
    rcases ht with rfl | ht
    · exact forceReset_legal hs
    · exact hostStep_legal (forceReset_legal hs) ht
  | request i _ _ ht => exact exec_legal (s := s.withRequest []) ⟨hs.width, hs.enc, hs.dec, hs.io, hs.mem⟩ ht
  | idle _ _ ht => exact ht ▸ hs
  | agent k _ _ ht => exact ht.legal ⟨hs.width, hs.enc, hs.dec, hs.io, hs.mem⟩

/-- Settles O58, part by part over what a step that answers can be. -/
theorem stepKeepsTheInvariant : Obligations.StepKeepsTheInvariant :=
  fun _ _ hs h => inv_iff_legal.2 (step_legal (inv_iff_legal.1 hs) h)

end Sys2Proof.Machine
end

section
/-!
The two units share no register (00_scope.md R8; 10_state.md R26): an operation of one unit commutes with any change of the other unit's
registers. Said once for a read, a write and two operations in a row; every body of a row is made of these.
-/

namespace Sys2Proof.Machine

/-- Making the change `p` before the operation is making it after. -/
def Commutes (p : State → State) (f : State → Res State) : Prop :=
  ∀ s, f (p s) = Except.map p (f s)

/-- A change of registers alone: an access of memory sees nothing of it. -/
structure RegistersOnly (p : State → State) : Prop where
  plat : ∀ s, (p s).plat = s.plat
  mem : ∀ s, (p s).mem = s.mem
  withMem : ∀ s m, (p s).withMem m = p (s.withMem m)

theorem answer_map (p : State → State) (r : Res State) : answer (Except.map p r) = onNext p (answer r) := by
  rcases r with (f | r) | t <;> rfl

section
variable {p : State → State}

theorem Commutes.pure {g : State → State} (h : ∀ s, g (p s) = p (g s) := by exact fun _ => rfl) : Commutes p fun s => .ok (g s) :=
  fun s => congrArg Except.ok (h s)

theorem Commutes.bind {f g : State → Res State} (hf : Commutes p f) (hg : Commutes p g) : Commutes p fun s => f s >>= g := by
  intro s
  change f (p s) >>= g = Except.map p (f s >>= g)
  rw [hf s]
  cases f s with
  | error e => rfl
  | ok t => exact hg t

theorem Commutes.ite {f g : State → Res State} {c : State → Prop} [DecidablePred c] (hf : Commutes p f) (hg : Commutes p g)
    (hc : ∀ s, c (p s) ↔ c s := by exact fun _ => Iff.rfl) : Commutes p fun s => if c s then f s else g s := by
  intro s
  by_cases h : c s
  · simpa [h, hc s] using hf s
  · simpa [h, hc s] using hg s

theorem Commutes.after {f : State → Res State} {g : State → State} (hf : Commutes p f)
    (hg : ∀ s, g (p s) = p (g s) := by exact fun _ => rfl) : Commutes p fun s => f (g s) := by
  intro s
  dsimp only
  rw [hg s, hf (g s)]

theorem Commutes.refuse (r : Refusal) : Commutes p fun _ => refuse r := fun _ => rfl

/-- A read whose address the change does not touch, and an operation on what it read. -/
theorem Commutes.read (hp : RegistersOnly p) {a : State → Nat} {f : Byte → State → Res State} (hf : ∀ v, Commutes p (f v))
    (ha : ∀ s, a (p s) = a s := by exact fun _ => rfl) : Commutes p fun s => readByte s (a s) >>= fun v => f v s := by
  intro s
  have hr : readByte (p s) (a (p s)) = readByte s (a s) := by
    rw [ha s, readByte, readByte, hp.plat, hp.mem]
  dsimp only
  rw [hr]
  cases readByte s (a s) with
  | error e => rfl
  | ok v => exact hf v s

/-- A write, after some work on registers, of a byte and to an address that the change does not touch. -/
theorem Commutes.write (hp : RegistersOnly p) {g : State → State} {a : State → Nat} {v : State → Byte}
    (hg : ∀ s, g (p s) = p (g s) := by exact fun _ => rfl) (ha : ∀ s, a (p s) = a s := by exact fun _ => rfl)
    (hv : ∀ s, v (p s) = v s := by exact fun _ => rfl) : Commutes p fun s => writeByte (g s) (a s) (v s) := by
  intro s
  dsimp only
  rw [hg s, ha s, hv s, writeByte, writeByte, hp.plat, hp.mem, hp.withMem]
  split <;> rfl

/-- A row whose body commutes commutes. -/
theorem Commutes.exec {i : Instr} {f : State → Res State} (h : Commutes p f) (s : State)
    (hi : ∀ s, exec i s = answer (f s) := by exact fun _ => rfl) :
    exec i (p s) = onNext p (exec i s) := by
  rw [hi, hi, h s, answer_map]

end

/-! ## The encoder -/

section
variable (d : DecUnit)

/-- Replace the decoder's registers. -/
def putDec (s : State) : State := { s with dec := d }

theorem putDec_registersOnly : RegistersOnly (putDec d) := ⟨fun _ => rfl, fun _ => rfl, fun _ _ => rfl⟩

theorem encGroup_commutes : Commutes (putDec d) encGroup :=
  have hp := putDec_registersOnly d
  .read hp fun _ => .read hp fun _ => .read hp fun _ =>
    .bind (.write hp) <| .bind (.write hp) <| .bind (.write hp) <| .bind (.write hp) .pure

theorem encTail2_commutes : Commutes (putDec d) encTail2 :=
  have hp := putDec_registersOnly d
  .read hp fun _ => .read hp fun _ =>
    .bind (.write hp) <| .bind (.write hp) <| .bind (.write hp) <| .bind (.write hp) .pure

theorem encTail1_commutes : Commutes (putDec d) encTail1 :=
  have hp := putDec_registersOnly d
  .read hp fun _ =>
    .bind (.write hp) <| .bind (.write hp) <| .bind (.write hp) <| .bind (.write hp) .pure

theorem encFinish_commutes : Commutes (putDec d) encFinish :=
  .bind (.write (putDec_registersOnly d)) .pure

theorem whenEncSelects_commutes (m : Nat) {body : State → Res State} (h : Commutes (putDec d) body) :
    Commutes (putDec d) fun s => whenEncSelects m s body :=
  .ite h (.refuse _)

theorem lateWritten_putDec (m : Nat) (s : State) (a : Nat) (v : Sextet) :
    lateWritten m (putDec d s) a v = putDec d (lateWritten m s a v) := by
  have he : (putDec d s).enc = s.enc := rfl
  unfold lateWritten
  rw [he]
  split <;> rfl

theorem encAccessed_putDec (s : State) : encAccessed (putDec d s) = putDec d (encAccessed s) := by
  have he : (putDec d s).enc = s.enc := rfl
  unfold encAccessed
  simp only [he]
  cases s.enc.phase with
  | read1 =>
    dsimp only
    split
    · rfl
    · split <;> rfl
  | read2 a => dsimp only; split <;> rfl
  | read3 a b => rfl
  | write1 => rfl
  | write2 => rfl
  | write3 => exact congrArg (encGoOn .write4) (lateWritten_putDec d 2 s _ _)
  | write4 => exact congrArg (fun t => encGoOn .read1 (encAdvance t _ _)) (lateWritten_putDec d 3 s _ _)

theorem encAccess_commutes : Commutes (putDec d) encAccess := by
  intro s
  cases ha : s.plat.admits (encNext s) with
  | true => rw [encAccess_admitted (s := putDec d s) ha, encAccess_admitted ha, encAccessed_putDec]; rfl
  | false => rw [encAccess_stuck (s := putDec d s) ha, encAccess_stuck ha]; rfl

/-- An `ENC.START` that answers has latched the command of an idle encoder, or done nothing: the decoder only decides whether it
answers (R71). -/
theorem execEncStart_latches {s t : State} (h : execEncStart s = .next t) :
    t = if s.io.encStart && !s.enc.busy then encLatch s else s := by
  have h := answer_eq_next.1 h
  split at h
  · next hb => rw [if_pos hb]; exact (encAccept_ok.1 h).2
  · next hb => rw [if_neg hb]; exact (Except.ok.inj h).symm

theorem encStart_putDec {s t u : State} (ht : exec .encStart s = .next t) (hu : exec .encStart (putDec d s) = .next u) :
    u = putDec d t := by
  rw [execEncStart_latches ht, execEncStart_latches hu, apply_ite (putDec d)]
  rfl

end

/-! ## The decoder -/

section
variable (e : EncUnit)

/-- Replace the encoder's registers. -/
def putEnc (s : State) : State := { s with enc := e }

theorem putEnc_registersOnly : RegistersOnly (putEnc e) := ⟨fun _ => rfl, fun _ => rfl, fun _ _ => rfl⟩

theorem fetch_commutes (k : Nat) : Commutes (putEnc e) (fetch k) :=
  .read (putEnc_registersOnly e) fun _ => .pure

theorem emit_commutes (w : Group → Byte) : Commutes (putEnc e) fun s => emit (w s.dec.sh) s :=
  .bind (.write (putEnc_registersOnly e)) .pure

theorem fetchThat_commutes (k : Nat) (t : CharClass → Bool) : Commutes (putEnc e) (fetchThat k t) :=
  .bind (fetch_commutes e k) (.ite .pure (.refuse _))

theorem fetchData_commutes (k : Nat) : Commutes (putEnc e) (fetchData k) := by
  refine .bind (fetch_commutes e k) fun s => ?_
  have hs : (putEnc e s).rlutOut = s.rlutOut := rfl
  rw [hs]
  cases s.rlutOut <;> rfl

theorem decTwo_commutes : Commutes (putEnc e) decTwo :=
  .bind (fetchData_commutes e 0) (.bind (fetchData_commutes e 1) (emit_commutes e byte1))

theorem decThree_commutes : Commutes (putEnc e) decThree :=
  .bind (decTwo_commutes e) (fetchData_commutes e 2)

theorem decTwoPad_commutes : Commutes (putEnc e) decTwoPad :=
  .bind (decTwo_commutes e) (fetchThat_commutes e 2 _)

theorem decByte3_commutes : Commutes (putEnc e) decByte3 :=
  .bind (emit_commutes e byte3) .pure

theorem decFull_commutes : Commutes (putEnc e) decFull := by
  refine .bind (decThree_commutes e) (.bind (fetch_commutes e 3) fun s => ?_)
  have hs : (putEnc e s).rlutOut = s.rlutOut := rfl
  rw [hs]
  cases s.rlutOut with
  | data v => exact Commutes.bind (emit_commutes e byte2) (.after (decByte3_commutes e)) s
  | pad => rfl
  | notB64 => rfl

theorem whenDecBusy_commutes {body : State → Res State} (h : Commutes (putEnc e) body) :
    Commutes (putEnc e) fun s => whenDecBusy s body :=
  .ite h (.refuse _)

theorem decAccessed_putEnc (s : State) : decAccessed (putEnc e s) = putEnc e (decAccessed s) := by
  have hd : (putEnc e s).dec = s.dec := rfl
  have hc : ∀ k, charAt (putEnc e s) k = charAt s k := fun _ => rfl
  unfold decAccessed
  simp only [hd, hc]
  cases s.dec.phase with
  | read1 => cases charAt s 0 <;> rfl
  | read2 => cases charAt s 1 <;> rfl
  | write1 => rfl
  | read3 => cases charAt s 2 <;> rfl
  | read4 =>
    cases charAt s 3 with
    | data v => dsimp only; split <;> rfl
    | pad => dsimp only; split <;> rfl
    | notB64 => rfl
  | write2 c => cases c <;> rfl
  | write3 v => rfl

theorem decAccess_commutes : Commutes (putEnc e) decAccess := by
  intro s
  cases ha : s.plat.admits (decNext s) with
  | true => rw [decAccess_admitted (s := putEnc e s) ha, decAccess_admitted ha, decAccessed_putEnc]; rfl
  | false => rw [decAccess_stuck (s := putEnc e s) ha, decAccess_stuck ha]; rfl

/-- A `DEC.START` that answers has latched the command of an idle decoder, or done nothing: the encoder only decides whether it
answers (R86). -/
theorem execDecStart_latches {s t : State} (h : execDecStart s = .next t) :
    t = if s.io.decStart && !s.dec.busy then decLatch s else s := by
  have h := answer_eq_next.1 h
  split at h
  · next hb => rw [if_pos hb]; exact decAccept_ok h
  · next hb => rw [if_neg hb]; exact (Except.ok.inj h).symm

theorem decStart_putEnc {s t u : State} (ht : exec .decStart s = .next t) (hu : exec .decStart (putEnc e s) = .next u) :
    u = putEnc e t := by
  rw [execDecStart_latches ht, execDecStart_latches hu, apply_ite (putEnc e)]
  rfl

end

/-! ## The rows -/

theorem encAction_commutes (d : DecUnit) (s : State) {i : Instr} {m : Nat} {body : State → Res State}
    (h : Commutes (putDec d) body) (hi : ∀ s, exec i s = answer (whenEncSelects m s body) := by exact fun _ => rfl) :
    exec i (putDec d s) = onNext (putDec d) (exec i s) :=
  (whenEncSelects_commutes d m h).exec s hi

theorem encActions_commute (d : DecUnit) (s : State) :
    ∀ i ∈ [Instr.encG3, .encT2, .encT1, .encT0], exec i (putDec d s) = onNext (putDec d) (exec i s) := by
  simp only [List.forall_mem_cons]
  exact ⟨encAction_commutes d s (encGroup_commutes d), encAction_commutes d s (encTail2_commutes d),
    encAction_commutes d s (encTail1_commutes d), encAction_commutes d s (encFinish_commutes d), nofun⟩

theorem decAction_commutes (e : EncUnit) (s : State) {i : Instr} {body : State → Res State}
    (h : Commutes (putEnc e) body) (hi : ∀ s, exec i s = answer (whenDecBusy s body) := by exact fun _ => rfl) :
    exec i (putEnc e s) = onNext (putEnc e) (exec i s) :=
  (whenDecBusy_commutes e h).exec s hi

theorem decRows_commute (e : EncUnit) (s : State) (k : Nat) (v : Sextet) :
    ∀ i ∈ [Instr.decEnd0, .decFailB, .decFailC, .decFailD, .decFailDP, .decFailPD, .decEnd1, .decEnd2, .decFull,
      .decFetch k, .decShift v, .decEmit1, .decEmit2], exec i (putEnc e s) = onNext (putEnc e) (exec i s) := by
  have that := fetchThat_commutes e
  have two := decTwo_commutes e
  have twoPad := decTwoPad_commutes e
  have three := decThree_commutes e
  have fetchRow : Commutes (putEnc e) fun s => if k = s.dec.k.toNat then fetch k s else refuse .notSelected :=
    .ite (fetch_commutes e k) (.refuse _)
  have shiftRow : Commutes (putEnc e) fun s => .ok (shift v s) := .pure
  simp only [List.forall_mem_cons]
  refine ⟨?end0, ?failB, ?failC, ?failD, ?failDP, ?failPD, ?end1, ?end2, ?full, ?fetch, ?shift, ?emit1, ?emit2, nofun⟩
  case end0 => exact decAction_commutes e s (body := decEnd0) (.bind (that 0 _) .pure)
  case failB => exact decAction_commutes e s (body := decFailB) (.bind (fetchData_commutes e 0) (.bind (that 1 _) .pure))
  case failC => exact decAction_commutes e s (body := decFailC) (.bind two (.bind (that 2 _) .pure))
  case failD => exact decAction_commutes e s (body := decFailD) (.bind three (.bind (that 3 _) .pure))
  case failDP => exact decAction_commutes e s (body := decFailDP) (.bind twoPad (.bind (that 3 _) .pure))
  case failPD => exact decAction_commutes e s (body := decFailPD) (.bind twoPad (.bind (that 3 _) .pure))
  case end1 => exact decAction_commutes e s (body := decEnd1) (.bind twoPad (.bind (that 3 _) .pure))
  case end2 => exact decAction_commutes e s (body := decEnd2) (.bind three (.bind (that 3 _) (.bind (emit_commutes e byte2) .pure)))
  case full => exact decAction_commutes e s (decFull_commutes e)
  case fetch => exact fetchRow.exec s
  case shift => exact shiftRow.exec s
  case emit1 => exact (emit_commutes e byte1).exec s
  case emit2 => exact (emit_commutes e byte2).exec s

/-- Settles O60: each operation of one unit commutes with a change of the other unit's registers. -/
theorem unitsShareNoRegister : Obligations.UnitsShareNoRegister := by
  intro s e d k v
  refine ⟨encActions_commute d s, decRows_commute e s k v, ?_, ?_, fun _ _ => encStart_putDec d, fun _ _ => decStart_putEnc e⟩
  · exact (congrArg answer (encAccess_commutes d s)).trans (answer_map _ _)
  · exact (congrArg answer (decAccess_commutes e s)).trans (answer_map _ _)

end Sys2Proof.Machine
end

section
/-!
The state right after reset (10_state.md R27; 70_reset_and_hazards.md R125; 60_exceptions.md R122).
-/

namespace Sys2Proof.Machine

theorem reset_hasWork (x : Agent) : hasWork State.reset x = false := by
  cases x <;> rfl

/-- Settles O56: no agent has anything to do, so a step is the idle one. -/
theorem resetStateIsIdle : Obligations.ResetStateIsIdle := by
  have he : enabled State.reset = [] := by simp [enabled, canStep, reset_hasWork]
  exact ⟨rfl, rfl, rfl, rfl, rfl, rfl, rfl, he, (stepIsOneAgentsStep State.reset rfl rfl).2 reset_hasWork⟩

/-- Settles O57, part by part: every register and port is 0, and memory lists nothing. -/
theorem resetMeetsTheInvariant : Obligations.ResetMeetsTheInvariant :=
  have h0 : 0 < 2 ^ State.reset.plat.aw := Nat.two_pow_pos _
  inv_iff_legal.2
    { width := by decide
      enc := ⟨⟨h0, h0, h0, h0⟩, nofun, fun _ => rfl, Nat.zero_le _⟩
      dec := .completed ⟨h0, h0, h0⟩ rfl rfl nofun
      io := ⟨h0, h0, h0, h0, h0⟩
      mem := ⟨rfl, nofun⟩ }

end Sys2Proof.Machine
end

section
/-!
One byte of memory (20_memory.md R32): what a write that the memory admits leaves at its address and at every other.
-/

namespace Sys2Proof.Machine

/-- Settles O13, by the laws of memory: the write replaces one byte of a canonical memory. -/
theorem byteWriteThenReads : Obligations.ByteWriteThenReads := by
  intro s t a v hwf h
  obtain ⟨ha, rfl⟩ := writeByte_ok.1 h
  refine ⟨readByte_ok.2 ⟨ha, (Memory.get_set_same a v hwf).symm⟩, fun b hb => ?_, Memory.wf_set a v hwf⟩
  simp [readByte, Memory.get_set_other _ _ _ _ hb]

end Sys2Proof.Machine
end

section
/-!
A command outside the caller's contract (20_memory.md R35, R44; 70_reset_and_hazards.md R130; 93 U3, U4, U12): which refusal the launch premise
gives, and that each row that presents the command is refused as the premise is.
-/

namespace Sys2Proof.Machine

/-! ## The premise -/

/-- Neither view runs past the top of the address space. -/
def Views.Fit (aw : Nat) (v : Views) : Prop :=
  v.src.lo + v.src.len ≤ 2 ^ aw ∧ v.dst.lo + v.dst.len ≤ 2 ^ aw

theorem Views.fit_iff {aw : Nat} {v : Views} : v.Fit aw ↔ (v.src.fits aw && v.dst.fits aw) = true := by
  rw [Bool.and_eq_true, Span.fits_iff, Span.fits_iff, Views.Fit]

section
variable {s : State} {v w : Views}

theorem checkViews_wraps {other : Option Views} (h : ¬v.Fit s.plat.aw) : checkViews s v other = refuse .viewWraps := by
  rw [Views.fit_iff, Bool.not_eq_true] at h
  simp [checkViews, h]

/-- Where neither view wraps, the premise goes on with the overlap of the two (R44). -/
theorem checkViews_fit {other : Option Views} (h : v.Fit s.plat.aw) :
    checkViews s v other = if v.src.meets v.dst then refuse .viewsOverlap else checkUnits s v other := by
  rw [Views.fit_iff] at h
  simp [checkViews, h]

theorem checkViews_overlaps {other : Option Views} (h : v.Fit s.plat.aw) (ho : ∃ a, v.src.Holds a ∧ v.dst.Holds a) :
    checkViews s v other = refuse .viewsOverlap := by
  rw [checkViews_fit h, if_pos (Span.meets_true.2 ho)]

theorem checkViews_conflicts (h : v.Fit s.plat.aw) (ho : ¬∃ a, v.src.Holds a ∧ v.dst.Holds a)
    (hc : ∃ a, (v.dst.Holds a ∧ (w.dst.Holds a ∨ w.src.Holds a)) ∨ (v.src.Holds a ∧ w.dst.Holds a)) :
    checkViews s v (some w) = refuse .unitsConflict := by
  rw [checkViews_fit h, if_neg (mt Span.meets_true.1 ho), checkUnits, Option.any_some, if_pos (Views.conflict_true.2 hc)]

end

/-! ## The rows that present a command -/

section
variable {s : State} {i : Instr} {r : Refusal}

/-- `ENCODE` and a presented `ENC.START` begin with the premise (R70, R71). -/
theorem encCommand_refused (hi : i ∈ [Instr.encode, .encStart]) (hb : s.enc.busy = false)
    (hp : i = .encStart → s.io.encStart = true) (h : checkViews s (encCommandViews s) (decRunning s) = refuse r) :
    exec i s = .refused r := by
  have hacc : encAccept s = refuse r := by rw [encAccept, h, refuse_bind]
  simp only [List.mem_cons, List.not_mem_nil, or_false] at hi
  rcases hi with rfl | rfl
  · simp [exec, execEncode, hb, hacc]
  · simp [exec, execEncStart, hb, hp rfl, hacc]

/-- `DECODE` and a presented `DEC.START` of a terminated string begin with the premise (R85, R86). -/
theorem decCommand_refused {n : Nat} (hi : i ∈ [Instr.decode, .decStart]) (hb : s.dec.busy = false)
    (hp : i = .decStart → s.io.decStart = true) (hn : strLen s s.io.decSrc = some n)
    (h : checkViews s (decViews s.io.decDest s.io.decSrc n) (encRunning s) = refuse r) : exec i s = .refused r := by
  have hacc : decAccept s = refuse r := by simp only [decAccept, decCommandViews_some hn, hn, h, refuse_bind]
  simp only [List.mem_cons, List.not_mem_nil, or_false] at hi
  rcases hi with rfl | rfl
  · simp [exec, execDecode, hb, hn, hacc]
  · simp [exec, execDecStart, hb, hp rfl, hacc]

end

theorem encRunning_busy {s : State} (h : s.enc.busy = true) : encRunning s = some s.enc.bufs := if_pos h

theorem decRunning_busy {s : State} (h : s.dec.busy = true) : decRunning s = some s.dec.bufs := if_pos h

/-- Settles O46: the premise refuses, and the rows that begin with it are refused with it. -/
theorem outsideContractIsRefused : Obligations.OutsideContractIsRefused := by
  intro s
  refine ⟨fun i hi hb hp => ?_, fun i hi n hb hp hn => ?_⟩
  · have refused {r} := encCommand_refused (r := r) hi hb hp
    exact ⟨fun h => refused (checkViews_wraps h), fun h ho => refused (checkViews_overlaps h ho), fun h ho hw hc =>
      refused (decRunning_busy hw ▸ checkViews_conflicts h ho hc)⟩
  · have refused {r} := decCommand_refused (r := r) hi hb hp hn
    exact ⟨fun h => refused (checkViews_wraps h), fun h ho => refused (checkViews_overlaps h ho), fun h ho hw hc =>
      refused (encRunning_busy hw ▸ checkViews_conflicts h ho hc)⟩

end Sys2Proof.Machine
end

section
/-!
A stuck agent (20_memory.md R39; 00_scope.md R8; 93 U14): it is not among the agents that can step, the step of one that can never faults, and
with nobody able to step the machine stops at the stuck agent's address.
-/

namespace Sys2Proof.Machine

/-! ## Stuck agents -/

theorem not_mem_enabled_of_stuck {s : State} {x : Agent} {a : Nat} (h : stuckAt s x = some a) : x ∉ enabled s :=
  fun hx => nomatch h.symm.trans (mem_enabled.1 hx).2

theorem encBusy_stuck {s : State} (hb : s.enc.busy = true) (ha : s.plat.admits (encNext s) = false) :
    stuckAt s .enc = some (encNext s) :=
  stuckAt_some.2 ⟨by simp [hasWork, hb], by simp [nextAccess, hb], ha⟩

theorem decBusy_stuck {s : State} (hb : s.dec.busy = true) (ha : s.plat.admits (decNext s) = false) :
    stuckAt s .dec = some (decNext s) :=
  stuckAt_some.2 ⟨by simp [hasWork, hb], by simp [nextAccess, hb], ha⟩

theorem hostStore_stuck {s : State} {a : Nat} {v : Byte} {rest : List HostMove} (hs : s.script = .store a v :: rest)
    (ha : s.plat.admits a = false) : stuckAt s .host = some a :=
  stuckAt_some.2 ⟨by simp [hasWork, hs], by simp [nextAccess, hs], ha⟩

/-- The next access of an agent that can step is admitted. -/
theorem admits_nextAccess {s : State} {x : Agent} {a : Nat} (hx : x ∈ enabled s) (hn : nextAccess s x = some a) :
    s.plat.admits a = true := by
  obtain ⟨hw, hfree⟩ := mem_enabled.1 hx
  by_contra ha
  exact nomatch hfree.symm.trans (stuckAt_some.2 ⟨hw, hn, by simpa using ha⟩)

/-! ## The steps of those that can step -/

/-- The host makes its next move wherever memory admits the store, if it is one. -/
theorem hostStep_admitted {s : State} (h : ∀ a, nextAccess s .host = some a → s.plat.admits a = true) :
    ∃ t, hostStep s = .ok t := by
  unfold hostStep
  cases hs : s.script with
  | nil => exact ⟨_, rfl⟩
  | cons m rest =>
    cases m with
    | driveEnc => exact ⟨_, rfl⟩
    | driveDec => exact ⟨_, rfl⟩
    | driveRst => exact ⟨_, rfl⟩
    | store a v => exact ⟨_, writeByte_admitted (s := s.withScript rest) v (h a (by simp [nextAccess, hs]))⟩

/-- A command on the encoder's ports is latched or refused (R71). -/
theorem encAccept_cases (s : State) : encAccept s = .ok (encLatch s) ∨ ∃ r, encAccept s = refuse r := by
  unfold encAccept
  rcases checkViews_cases s (encCommandViews s) (decRunning s) with h | ⟨r, h⟩
  · exact .inl (by rw [h, ok_bind])
  · exact .inr ⟨r, by rw [h, refuse_bind]⟩

theorem checkUnits_cases (s : State) (v : Views) (other : Option Views) :
    checkUnits s v other = .ok s ∨ ∃ r, checkUnits s v other = refuse r := by
  unfold checkUnits
  split
  · exact .inr ⟨_, rfl⟩
  · exact .inl rfl

/-- A command on the decoder's ports is latched or refused (R86). -/
theorem decAccept_cases (s : State) : decAccept s = .ok (decLatch s) ∨ ∃ r, decAccept s = refuse r := by
  unfold decAccept
  cases strLen s s.io.decSrc with
  | none =>
    rcases checkUnits_cases s (decCommandViews s) (encRunning s) with h | ⟨r, h⟩
    · exact .inl (by simp only [h, ok_bind])
    · exact .inr ⟨r, by simp only [h, refuse_bind]⟩
  | some n =>
    rcases checkViews_cases s (decCommandViews s) (encRunning s) with h | ⟨r, h⟩
    · exact .inl (by simp only [h, ok_bind])
    · exact .inr ⟨r, by simp only [h, refuse_bind]⟩

theorem execEncStart_ne_fault (s : State) (f : Fault) : execEncStart s ≠ .fault f := by
  unfold execEncStart
  split
  · rcases encAccept_cases s with h | ⟨r, h⟩ <;> rw [h] <;> exact nofun
  · exact nofun

theorem execDecStart_ne_fault (s : State) (f : Fault) : execDecStart s ≠ .fault f := by
  unfold execDecStart
  split
  · rcases decAccept_cases s with h | ⟨r, h⟩ <;> rw [h] <;> exact nofun
  · exact nofun

/-- An agent with something to do, whose next access, if it makes one, the memory admits, does not fault. -/
theorem agentStep_ne_fault {s : State} {x : Agent} (hw : hasWork s x = true)
    (ha : ∀ a, nextAccess s x = some a → s.plat.admits a = true) (f : Fault) : outcomeOf (agentStep s x) ≠ .fault f := by
  cases x with
  | host =>
    obtain ⟨t, ht⟩ := hostStep_admitted ha
    rw [agentStep, ht]
    exact nofun
  | enc =>
    cases hb : s.enc.busy with
    | true =>
      rw [agentStep_encBusy hb, encAccess_admitted (ha _ (by simp [nextAccess, hb]))]
      exact nofun
    | false =>
      rw [agentStep_encStart hb (by simpa [hasWork, hb] using hw)]
      exact execEncStart_ne_fault s f
  | dec =>
    cases hb : s.dec.busy with
    | true =>
      rw [agentStep_decBusy hb, decAccess_admitted (ha _ (by simp [nextAccess, hb]))]
      exact nofun
    | false =>
      rw [agentStep_decStart hb (by simpa [hasWork, hb] using hw)]
      exact execDecStart_ne_fault s f

/-- While an agent can step, the agents' step does not fault. -/
theorem agentsStep_ne_fault {s : State} (h : enabled s ≠ []) (f : Fault) : outcomeOf (agentsStep s) ≠ .fault f := by
  obtain ⟨x, hx, k, -, e⟩ := agentsStep_of_enabled h
  rw [e]
  refine agentStep_ne_fault ((hasWork_withFreeIx s _ x).trans (mem_enabled.1 hx).1) (fun a hn => ?_) f
  exact admits_nextAccess hx ((nextAccess_withFreeIx s _ x).symm.trans hn)

/-- Where nobody can step and an agent is stuck, the agents' step stops at an address that no memory backs. -/
theorem agentsStep_stuck {s : State} (h : enabled s = []) {x : Agent} {a : Nat} (hx : stuckAt s x = some a) :
    ∃ b, s.plat.admits b = false ∧ agentsStep s = .stop (.fault (.unadmitted b)) := by
  have e : agentsStep s = nobodySteps s := by rw [agentsStep, h]
  rcases nobodySteps_cases s with ⟨hnone, -⟩ | ⟨y, b, hy, e'⟩
  · exact nomatch hx.symm.trans (hnone x)
  · obtain ⟨-, -, hb⟩ := stuckAt_some.1 hy
    exact ⟨b, hb, e.trans e'⟩

/-- Settles O53, by what the agents' step is. -/
theorem stuckUnitLetsTheOthersStep : Obligations.StuckUnitLetsTheOthersStep := by
  intro s hr hq
  have e : step s = outcomeOf (agentsStep s) := by rw [step_eq_outcomeOf, select_agents hr hq]
  refine ⟨fun hb ha => not_mem_enabled_of_stuck (encBusy_stuck hb ha), fun hb ha => not_mem_enabled_of_stuck (decBusy_stuck hb ha),
    fun a v rest hs ha => not_mem_enabled_of_stuck (hostStore_stuck hs ha), fun h f => e ▸ agentsStep_ne_fault h f, ?_⟩
  rintro h ⟨x, a, hx⟩
  obtain ⟨b, hb, e'⟩ := agentsStep_stuck h hx
  exact ⟨b, hb, by rw [e, e']; rfl⟩

end Sys2Proof.Machine
end

section
/-!
What comes of a row's accesses (20_memory.md R39, R41): they are made in order, up to the first unadmitted one. Said once for an
operation whose accesses are a fixed list, and for one whose number of accesses depends on what it reads.
-/

namespace Sys2Proof.Machine

/-! ## The accesses of an operation -/

/-- What comes of accesses at the given addresses, in order: a stop at the first unadmitted one, or a stop among `others`,
or an answer, and then the memory admits them all. -/
def Makes (others : Set Stop) (p : Platform) (l : List Nat) {α : Type} : Res α → Prop
  | .ok _ => firstUnadmitted p l = none
  | .error e => (∃ a, firstUnadmitted p l = some a ∧ e = .fault (.unadmitted a)) ∨ e ∈ others

/-- The weaker form, for an operation whose accesses depend on what it reads: it stops only at an unadmitted address, or with a stop among `others`. -/
def StopsOnly (others : Set Stop) (p : Platform) {α : Type} (r : Res α) : Prop :=
  ∀ e, r = .error e → (∃ a, p.admits a = false ∧ e = .fault (.unadmitted a)) ∨ e ∈ others

theorem firstUnadmitted_some {p : Platform} {l : List Nat} {a : Nat} (h : firstUnadmitted p l = some a) :
    p.admits a = false := by
  simpa using List.find?_some h

theorem firstUnadmitted_cons_admitted {p : Platform} {a : Nat} (l : List Nat) (h : p.admits a = true) :
    firstUnadmitted p (a :: l) = firstUnadmitted p l := by
  simp [firstUnadmitted, h]

theorem firstUnadmitted_cons_stuck {p : Platform} {a : Nat} (l : List Nat) (h : p.admits a = false) :
    firstUnadmitted p (a :: l) = some a := by
  simp [firstUnadmitted, h]

section
variable {others : Set Stop} {p : Platform} {l l' : List Nat} {α β : Type}

theorem Makes.pure {x : α} : Makes others p [] (.ok x) := rfl

/-- Another stop may come anywhere among the accesses. -/
theorem Makes.otherStop {e : Stop} (h : e ∈ others) : Makes others p l (.error e : Res α) := .inr h

/-- Of a list of accesses only the first that is not admitted counts. -/
theorem Makes.congr {r : Res α} (hr : Makes others p l r) (h : firstUnadmitted p l' = firstUnadmitted p l) :
    Makes others p l' r := by
  cases r with
  | ok x => exact h.trans hr
  | error e => exact hr.imp_left fun ⟨a, ha, he⟩ => ⟨a, h.trans ha, he⟩

/-- One access more before the others. -/
theorem Makes.cons {a : Nat} {r : Res α} (h : p.admits a = true) (hr : Makes others p l r) : Makes others p (a :: l) r :=
  hr.congr (firstUnadmitted_cons_admitted l h)

theorem Makes.stuck {a : Nat} (h : p.admits a = false) : Makes others p (a :: l) (.error (.fault (.unadmitted a)) : Res α) :=
  .inl ⟨a, firstUnadmitted_cons_stuck l h, rfl⟩

/-- One operation after another makes the accesses of the first, then those of the second. -/
theorem Makes.bind {x : Res α} {f : α → Res β} (hx : Makes others p l x) (hf : ∀ u, x = .ok u → Makes others p l' (f u)) :
    Makes others p (l ++ l') (x >>= f) := by
  have append : firstUnadmitted p (l ++ l') = (firstUnadmitted p l).or (firstUnadmitted p l') := List.find?_append
  cases x with
  | error e => exact hx.imp_left fun ⟨a, ha, he⟩ => ⟨a, by rw [append, ha, Option.some_or], he⟩
  | ok u =>
    have hl : firstUnadmitted p l = none := hx
    exact (hf u rfl).congr (by rw [append, hl, Option.none_or])

/-- Where not every access is admitted, the first that is not is the stop, or another stop came before it. -/
theorem Makes.stops {r : Res α} {a : Nat} (h : Makes others p l r) (ha : firstUnadmitted p l = some a) :
    r = .error (.fault (.unadmitted a)) ∨ ∃ e ∈ others, r = .error e := by
  cases r with
  | ok x => exact nomatch ha.symm.trans h
  | error e =>
    refine h.imp (fun ⟨b, hb, he⟩ => ?_) fun he => ⟨e, he, rfl⟩
    rw [he, Option.some.inj (ha.symm.trans hb)]

theorem Makes.stopsOnly {r : Res α} (h : Makes others p l r) : StopsOnly others p r := by
  rintro e rfl
  exact h.imp_left fun ⟨a, ha, he⟩ => ⟨a, firstUnadmitted_some ha, he⟩

theorem StopsOnly.ok {x : α} : StopsOnly others p (.ok x) := nofun

theorem StopsOnly.bind {x : Res α} {f : α → Res β} (hx : StopsOnly others p x) (hf : ∀ u, x = .ok u → StopsOnly others p (f u)) :
    StopsOnly others p (x >>= f) := by
  cases x with
  | error e => exact fun e' h => hx e' (by simpa using h)
  | ok u => exact hf u rfl

/-! ## Reads and writes -/

variable {s : State}

theorem Makes.read {a : Nat} {f : Byte → Res α} (hf : ∀ v, Makes others p l (f v)) (hp : s.plat = p := by rfl) :
    Makes others p (a :: l) (readByte s a >>= f) := by
  subst hp
  cases h : s.plat.admits a with
  | true => rw [readByte_admitted h, ok_bind]; exact .cons h (hf _)
  | false => rw [readByte_stuck h, error_bind]; exact .stuck h

theorem Makes.write {a : Nat} {v : Byte} {f : State → Res α} (hf : Makes others p l (f (s.withMem (s.mem.set a v))))
    (hp : s.plat = p := by rfl) : Makes others p (a :: l) (writeByte s a v >>= f) := by
  subst hp
  cases h : s.plat.admits a with
  | true => rw [writeByte_admitted v h, ok_bind]; exact .cons h hf
  | false => rw [writeByte_stuck v h, error_bind]; exact .stuck h

/-! ## The encoder's group actions -/

theorem encGroup_makes (s : State) : Makes others s.plat (encAccesses .encG3 s) (encGroup s) :=
  .read fun _ => .read fun _ => .read fun _ => .write <| .write <| .write <| .write .pure

theorem encTail2_makes (s : State) : Makes others s.plat (encAccesses .encT2 s) (encTail2 s) :=
  .read fun _ => .read fun _ => .write <| .write <| .write <| .write .pure

theorem encTail1_makes (s : State) : Makes others s.plat (encAccesses .encT1 s) (encTail1 s) :=
  .read fun _ => .write <| .write <| .write <| .write .pure

theorem encFinish_makes (s : State) : Makes others s.plat (encAccesses .encT0 s) (encFinish s) :=
  .write .pure

/-! ## The decoder's sub-operations -/

theorem Makes.fetch {k : Nat} {f : State → Res α} (hf : Makes others p l (f (fetched k (charAt s k) s)))
    (hp : s.plat = p := by rfl) : Makes others p (s.addr s.dec.src k :: l) (Machine.fetch k s >>= f) := by
  subst hp
  cases h : s.plat.admits (s.addr s.dec.src k) with
  | true => rw [fetch_eq h, ok_bind]; exact .cons h hf
  | false => rw [fetch_stuck h, error_bind]; exact .stuck h

theorem Makes.emit {v : Byte} {f : State → Res α} (hf : Makes others p l (f (dstAdvanced (s.withMem (s.mem.set s.dec.dst v)))))
    (hp : s.plat = p := by rfl) : Makes others p (s.dec.dst :: l) (Machine.emit v s >>= f) := by
  subst hp
  cases h : s.plat.admits s.dec.dst with
  | true => rw [emit_admitted v h, ok_bind]; exact .cons h hf
  | false => rw [emit_stuck v h, error_bind]; exact .stuck h

theorem fetch_stopsOnly (k : Nat) (s : State) : StopsOnly ∅ s.plat (Machine.fetch k s) := by
  rintro e h
  cases ha : s.plat.admits (s.addr s.dec.src k) with
  | true => exact nomatch (fetch_eq ha).symm.trans h
  | false => exact .inl ⟨_, ha, (Except.error.inj ((fetch_stuck ha).symm.trans h)).symm⟩

theorem emit_stopsOnly (v : Byte) (s : State) : StopsOnly ∅ s.plat (Machine.emit v s) := by
  rintro e h
  cases ha : s.plat.admits s.dec.dst with
  | true => exact nomatch (emit_admitted v ha).symm.trans h
  | false => exact .inl ⟨_, ha, (Except.error.inj ((emit_stuck v ha).symm.trans h)).symm⟩

/-- What has no other stop may stand among operations that have some. -/
theorem StopsOnly.mono {r : Res α} (h : StopsOnly ∅ p r) : StopsOnly others p r :=
  fun e he => .inl ((h e he).resolve_right (Set.notMem_empty e))

theorem StopsOnly.fetch {k : Nat} {f : State → Res α} (hf : StopsOnly others p (f (fetched k (charAt s k) s)))
    (hp : s.plat = p := by simp) : StopsOnly others p (Machine.fetch k s >>= f) := by
  subst hp
  refine (fetch_stopsOnly k s).mono.bind fun u hu => ?_
  obtain ⟨-, rfl⟩ := fetch_ok.1 hu
  exact hf

theorem StopsOnly.emit {v : Byte} {f : State → Res α} (hf : StopsOnly others p (f (dstAdvanced (s.withMem (s.mem.set s.dec.dst v)))))
    (hp : s.plat = p := by simp) : StopsOnly others p (Machine.emit v s >>= f) := by
  subst hp
  refine (emit_stopsOnly v s).mono.bind fun u hu => ?_
  obtain ⟨-, rfl⟩ := emit_ok.1 hu
  exact hf

end

/-! ## The decoder's group actions -/

/-- A group action of the decoder may be refused as not the one selected (30_encoding.md R63). -/
abbrev notSelectedOnly : Set Stop := {.refusal .notSelected}

theorem Makes.notSelected {p : Platform} {l : List Nat} {α : Type} :
    Makes notSelectedOnly p l (refuse .notSelected : Res α) := .otherStop rfl

section
variable {p : Platform} {l : List Nat} {s : State} {f : State → Res State}

theorem fetchData_makes (k : Nat) (hp : s.plat = p := by rfl) :
    Makes notSelectedOnly p [s.addr s.dec.src k] (fetchData k s) := by
  refine .fetch ?_ hp
  rw [fetched_rlutOut]
  cases charAt s k with
  | data v => exact .pure
  | pad => exact .notSelected
  | notB64 => exact .notSelected

theorem Makes.fetchData {k : Nat} (hf : ∀ v, Makes notSelectedOnly p l (f (shift v (fetched k (.data v) s))))
    (hp : s.plat = p := by rfl) : Makes notSelectedOnly p (s.addr s.dec.src k :: l) (Machine.fetchData k s >>= f) := by
  refine (fetchData_makes k hp).bind fun u hu => ?_
  obtain ⟨-, v, -, rfl⟩ := fetchData_ok.1 hu
  exact hf v

theorem fetchThat_makes (k : Nat) (q : CharClass → Bool) (hp : s.plat = p := by rfl) :
    Makes notSelectedOnly p [s.addr s.dec.src k] (fetchThat k q s) := by
  refine .fetch ?_ hp
  split
  · exact .pure
  · exact .notSelected

theorem Makes.fetchThat {k : Nat} {q : CharClass → Bool} (hf : Makes notSelectedOnly p l (f (fetched k (charAt s k) s)))
    (hp : s.plat = p := by rfl) : Makes notSelectedOnly p (s.addr s.dec.src k :: l) (Machine.fetchThat k q s >>= f) := by
  refine (fetchThat_makes k q hp).bind fun u hu => ?_
  obtain ⟨-, -, rfl⟩ := fetchThat_ok.1 hu
  exact hf

/-- The accesses of a group that begins with two data characters, up to byte 1. -/
def twoAccesses (s : State) : List Nat :=
  [s.addr s.dec.src 0, s.addr s.dec.src 1, s.dec.dst]

theorem decTwo_makes (s : State) : Makes notSelectedOnly s.plat (twoAccesses s) (decTwo s) :=
  .fetchData fun _ => .fetchData fun _ => .write .pure

theorem Makes.decTwo (hf : ∀ va vb, Makes notSelectedOnly s.plat l (f (twoDone s va vb))) :
    Makes notSelectedOnly s.plat (twoAccesses s ++ l) (Machine.decTwo s >>= f) := by
  refine (decTwo_makes s).bind fun u hu => ?_
  obtain ⟨va, vb, -, rfl⟩ := decTwo_ok.1 hu
  exact hf va vb

theorem Makes.decThree (hf : ∀ va vb vc, Makes notSelectedOnly s.plat l (f (threeDone s va vb vc))) :
    Makes notSelectedOnly s.plat (twoAccesses s ++ s.addr s.dec.src 2 :: l) (Machine.decThree s >>= f) := by
  have three : Makes notSelectedOnly s.plat (twoAccesses s ++ [s.addr s.dec.src 2]) (Machine.decThree s) :=
    .decTwo fun _ _ => fetchData_makes 2
  refine List.append_cons _ _ l ▸ three.bind fun u hu => ?_
  obtain ⟨va, vb, vc, -, rfl⟩ := decThree_iff.1 hu
  exact hf va vb vc

theorem Makes.decTwoPad (hf : ∀ va vb, Makes notSelectedOnly s.plat l (f (fetched 2 .pad (twoDone s va vb)))) :
    Makes notSelectedOnly s.plat (twoAccesses s ++ s.addr s.dec.src 2 :: l) (Machine.decTwoPad s >>= f) := by
  have twoPad : Makes notSelectedOnly s.plat (twoAccesses s ++ [s.addr s.dec.src 2]) (Machine.decTwoPad s) :=
    .decTwo fun _ _ => fetchThat_makes 2 _
  refine List.append_cons _ _ l ▸ twoPad.bind fun u hu => ?_
  obtain ⟨va, vb, -, rfl⟩ := decTwoPad_iff.1 hu
  exact hf va vb

/-- A full group's end: the fourth character, byte 2, byte 3 (R99). -/
theorem decFull_makes (s : State) : Makes notSelectedOnly s.plat (decAccesses .decFull s) (decFull s) := by
  refine .decThree fun va vb vc => .fetch ?_
  rw [fetched_rlutOut]
  cases charAt (threeDone s va vb vc) 3 with
  | data vd => exact .emit <| .emit .pure
  | pad => exact .notSelected
  | notB64 => exact .notSelected

end

end Sys2Proof.Machine
end

section
/-!
Where each row stops at an unadmitted access (20_memory.md R39, R41): the group actions at the first of their list, a whole
`ENCODE` wherever a view holds one, and no row anywhere else.
-/

namespace Sys2Proof.Machine

/-! ## The rows of the group actions -/

/-- The row makes the accesses of the list, or is not selected. -/
def ActsBy (l : List Nat) (i : Instr) (s : State) : Prop :=
  ∃ r : Res State, exec i s = answer r ∧ Makes notSelectedOnly s.plat l r

theorem actsBy_whenEncSelects {i : Instr} {s : State} {m : Nat} {body : State → Res State}
    (h : Makes notSelectedOnly s.plat (encAccesses i s) (body s))
    (hi : exec i s = answer (whenEncSelects m s body) := by rfl) : ActsBy (encAccesses i s) i s := by
  refine ⟨_, hi, ?_⟩
  unfold whenEncSelects
  split
  · exact h
  · exact .notSelected

theorem actsBy_whenDecBusy {i : Instr} {s : State} {body : State → Res State}
    (h : Makes notSelectedOnly s.plat (decAccesses i s) (body s))
    (hi : exec i s = answer (whenDecBusy s body) := by rfl) : ActsBy (decAccesses i s) i s := by
  refine ⟨_, hi, ?_⟩
  unfold whenDecBusy
  split
  · exact h
  · exact .notSelected

theorem encActions_act (s : State) : ∀ i ∈ [Instr.encG3, .encT2, .encT1, .encT0], ActsBy (encAccesses i s) i s := by
  simp only [List.forall_mem_cons]
  exact ⟨actsBy_whenEncSelects (encGroup_makes s), actsBy_whenEncSelects (encTail2_makes s),
    actsBy_whenEncSelects (encTail1_makes s), actsBy_whenEncSelects (encFinish_makes s), nofun⟩

theorem decActions_act (s : State) :
    ∀ i ∈ [Instr.decEnd0, .decFailB, .decFailC, .decFailD, .decFailDP, .decFailPD, .decEnd1, .decEnd2, .decFull],
      ActsBy (decAccesses i s) i s := by
  simp only [List.forall_mem_cons]
  refine ⟨?end0, ?failB, ?failC, ?failD, ?failDP, ?failPD, ?end1, ?end2, ?full, nofun⟩
  case end0 => exact actsBy_whenDecBusy (body := decEnd0) (.fetchThat .pure)
  case failB => exact actsBy_whenDecBusy (body := decFailB) (.fetchData fun _ => .fetchThat .pure)
  case failC => exact actsBy_whenDecBusy (body := decFailC) (.decTwo fun _ _ => .fetchThat .pure)
  case failD => exact actsBy_whenDecBusy (body := decFailD) (.decThree fun _ _ _ => .fetchThat .pure)
  case failDP => exact actsBy_whenDecBusy (body := decFailDP) (.decTwoPad fun _ _ => .fetchThat .pure)
  case failPD => exact actsBy_whenDecBusy (body := decFailPD) (.decTwoPad fun _ _ => .fetchThat .pure)
  case end1 => exact actsBy_whenDecBusy (body := decEnd1) (.decTwoPad fun _ _ => .fetchThat .pure)
  case end2 => exact actsBy_whenDecBusy (body := decEnd2) (.decThree fun _ _ _ => .fetchThat <| .emit .pure)
  case full => exact actsBy_whenDecBusy (decFull_makes s)

theorem answer_eq_fault {r : Res State} {f : Fault} : answer r = .fault f ↔ r = .error (.fault f) := by
  rcases r with (g | g) | t <;> simp [answer]

/-- A row that makes its accesses stops at the first unadmitted one, or is not selected before it. -/
theorem ActsBy.stuck {l : List Nat} {i : Instr} {s : State} {a : Nat} (h : ActsBy l i s) (ha : firstUnadmitted s.plat l = some a) :
    exec i s = .fault (.unadmitted a) ∨ exec i s = .refused .notSelected := by
  obtain ⟨r, e, hr⟩ := h
  rw [e]
  rcases hr.stops ha with rfl | ⟨_, rfl, rfl⟩
  · exact .inl rfl
  · exact .inr rfl

/-- An operation whose other stops are not this fault has it only where no memory is. -/
theorem StopsOnly.unadmitted {others : Set Stop} {p : Platform} {r : Res State} {a : Nat} (h : StopsOnly others p r)
    (ho : .fault (.unadmitted a) ∉ others) (hr : answer r = .fault (.unadmitted a)) : p.admits a = false := by
  rcases h _ (answer_eq_fault.1 hr) with ⟨b, hb, e⟩ | hm
  · cases e; exact hb
  · exact absurd hm ho

theorem ActsBy.unadmitted {l : List Nat} {i : Instr} {s : State} {a : Nat} (h : ActsBy l i s)
    (hf : exec i s = .fault (.unadmitted a)) : s.plat.admits a = false := by
  obtain ⟨r, e, hr⟩ := h
  exact hr.stopsOnly.unadmitted (by simp) (e ▸ hf)

/-- The word of the encoder action map names the row of the bytes that remain (30_encoding.md R64). -/
theorem encM_of_decode {u : EncUnit} {i : Instr} (h : decodeEncAct (encActWord u) = .ok i) :
    (i = .encG3 ∧ encM u = 3) ∨ (i = .encT2 ∧ encM u = 2) ∨ (i = .encT1 ∧ encM u = 1) ∨ (i = .encT0 ∧ encM u = 0) := by
  have hm : encM u ≤ 3 := Nat.min_le_right _ _
  unfold encActWord at h
  generalize encM u = m at h hm
  interval_cases m <;> simpa [decodeEncAct, eq_comm] using h

/-- A row that the encoder's selector selects stops at its first unadmitted access. -/
theorem encAction_stuck {i : Instr} {s : State} {a : Nat} (hb : s.enc.busy = true) (hp : s.enc.phase = .read1)
    (hi : decodeEncAct (encActWord s.enc) = .ok i) (ha : firstUnadmitted s.plat (encAccesses i s) = some a) :
    exec i s = .fault (.unadmitted a) := by
  have runs {m : Nat} {body : State → Res State} (h : Makes ∅ s.plat (encAccesses i s) (body s)) (hm : encM s.enc = m) :
      answer (whenEncSelects m s body) = .fault (.unadmitted a) := by
    rw [whenEncSelects_selected body hb hp hm, (h.stops ha).resolve_right fun ⟨e, he, _⟩ => Set.notMem_empty e he]
    rfl
  rcases encM_of_decode hi with ⟨rfl, hm⟩ | ⟨rfl, hm⟩ | ⟨rfl, hm⟩ | ⟨rfl, hm⟩
  · exact runs (encGroup_makes s) hm
  · exact runs (encTail2_makes s) hm
  · exact runs (encTail1_makes s) hm
  · exact runs (encFinish_makes s) hm

/-! ## The whole ENCODE -/

section
variable {others : Set Stop}

theorem encGroups_stopsOnly (n : Nat) (s : State) : StopsOnly others s.plat (encGroups n s) := by
  induction n generalizing s with
  | zero => exact .ok
  | succ n ih => exact .bind (encGroup_makes s).stopsOnly fun u hu => (encGroup_keeps hu).plat ▸ ih u

theorem encTail_stopsOnly (s : State) : StopsOnly others s.plat (encTail s) := by
  unfold encTail
  split
  · exact (encTail2_makes s).stopsOnly
  · split
    · exact (encTail1_makes s).stopsOnly
    · exact .ok

theorem encodeWhole_stopsOnly (s : State) : StopsOnly others s.plat (encodeWhole s) := by
  refine .bind (encGroups_stopsOnly _ s) fun u hu => ?_
  rw [← (encGroups_keeps hu).plat]
  refine .bind (encTail_stopsOnly u) fun v hv => ?_
  rw [← (encTail_keeps hv).plat]
  exact (encFinish_makes v).stopsOnly

end

theorem Span.admitted_one {p : Platform} {a : Nat} (h : p.admits a = true) : Span.Admitted p { lo := a, len := 1 } := by
  intro b h1 h2
  obtain rfl : b = a := Nat.le_antisymm (Nat.le_of_lt_succ h2) h1
  exact h

/-- Two runs of addresses, one behind the other, below the top of the address space. -/
theorem Span.Admitted.append {p : Platform} {lo n m : Nat} (h : Span.Admitted p { lo := lo, len := n })
    (h' : Span.Admitted p { lo := addA p.aw lo n, len := m }) (hf : lo + (n + m) ≤ 2 ^ p.aw) :
    Span.Admitted p { lo := lo, len := n + m } := by
  intro a h1 h2
  dsimp only at h1 h2
  by_cases ha : a < lo + n
  · exact h a h1 ha
  · have e : addA p.aw lo n = lo + n := Nat.mod_eq_of_lt (by omega)
    exact h' a (by dsimp only; omega) (by dsimp only; omega)

theorem addA_add_le {aw p k n : Nat} (h : p + (k + n) ≤ 2 ^ aw) : addA aw p k + n ≤ 2 ^ aw := by
  have : addA aw p k ≤ p + k := Nat.mod_le _ _
  omega

theorem FourAdmitted.span {s : State} (h : FourAdmitted s) (hf : s.enc.dst + 4 ≤ 2 ^ s.plat.aw) :
    Span.Admitted s.plat { lo := s.enc.dst, len := 4 } := by
  obtain ⟨h0, h1, h2, h3⟩ := h
  have one {a : Nat} := Span.admitted_one (p := s.plat) (a := a)
  exact (((one h0).append (one h1) (by omega)).append (one h2) (by omega)).append (one h3) (by omega)

/-- An `ENCODE` that completes with a full group to come is that group, then the rest (R70). -/
theorem encodeWhole_group {s t : State} (hr : 3 ≤ s.enc.rem) (h : encodeWhole s = .ok t) :
    ∃ u, encGroup s = .ok u ∧ encodeWhole u = .ok t := by
  obtain ⟨v, w, hv, hw, ht⟩ := encodeWhole_ok.1 h
  rw [show s.enc.rem / 3 = (s.enc.rem - 3) / 3 + 1 by omega] at hv
  obtain ⟨u, hu, hv⟩ := encGroups_succ.1 hv
  have hrem : u.enc.rem = s.enc.rem - 3 := by
    obtain ⟨-, -, rfl⟩ := encGroup_ok.1 hu
    rfl
  exact ⟨u, hu, encodeWhole_ok.2 ⟨v, w, hrem ▸ hv, hw, ht⟩⟩

/-- An `ENCODE` that completes with no full group to come is the tail and the terminator (R70). -/
theorem encodeWhole_tail {s t : State} (hr : s.enc.rem < 3) (h : encodeWhole s = .ok t) :
    ∃ u, encTail s = .ok u ∧ encFinish u = .ok t := by
  obtain ⟨v, w, hv, hw, ht⟩ := encodeWhole_ok.1 h
  rw [Nat.div_eq_of_lt hr] at hv
  cases hv
  exact ⟨w, hw, ht⟩

/-- Memory is behind every address of the views. -/
def Views.Admitted (p : Platform) (v : Views) : Prop :=
  v.src.Admitted p ∧ v.dst.Admitted p

/-- An `ENCODE` that completes with `r` bytes to come has accessed every address of its views, row by row of the encoder action map. -/
theorem encodeWhole_admitted : ∀ {r : Nat} {s t : State}, encodeWhole s = .ok t → s.enc.rem = r →
    (encViews s.enc.dst s.enc.src r).Fit s.plat.aw → (encViews s.enc.dst s.enc.src r).Admitted s.plat
  | 0, s, t, h, hr, _ => by
    obtain ⟨u, hu, ht⟩ := encodeWhole_tail (by omega) h
    have e : u = s := by simpa [encTail, hr, eq_comm] using hu
    subst e
    obtain ⟨w, -⟩ := encFinish_ok.1 ht
    exact ⟨fun a h1 h2 => absurd h1 (Nat.not_le_of_lt h2), Span.admitted_one w⟩
  | 1, s, t, h, hr, ⟨_, hfd⟩ => by
    obtain ⟨u, hu, ht⟩ := encodeWhole_tail (by omega) h
    obtain ⟨a0, w, rfl⟩ := encTail1_ok.1 (show encTail1 s = .ok u by simpa [encTail, hr] using hu)
    obtain ⟨w', -⟩ := encFinish_ok.1 ht
    dsimp only [encViews] at hfd
    exact ⟨Span.admitted_one a0, (w.span (by omega)).append (Span.admitted_one w') hfd⟩
  | 2, s, t, h, hr, ⟨hfs, hfd⟩ => by
    obtain ⟨u, hu, ht⟩ := encodeWhole_tail (by omega) h
    obtain ⟨⟨a0, a1⟩, w, rfl⟩ := encTail2_ok.1 (show encTail2 s = .ok u by simpa [encTail, hr] using hu)
    obtain ⟨w', -⟩ := encFinish_ok.1 ht
    dsimp only [encViews] at hfs hfd
    exact ⟨(Span.admitted_one a0).append (Span.admitted_one a1) hfs, (w.span (by omega)).append (Span.admitted_one w') hfd⟩
  | r + 3, s, t, h, hr, ⟨hfs, hfd⟩ => by
    obtain ⟨u, hu, ht⟩ := encodeWhole_group (by omega) h
    obtain ⟨⟨a0, a1, a2⟩, w, rfl⟩ := encGroup_ok.1 hu
    have hd : 4 * ((r + 3 + 2) / 3) + 1 = 4 + (4 * ((r + 2) / 3) + 1) := by omega
    have hs : r + 3 = 3 + r := Nat.add_comm r 3
    dsimp only [encViews] at hfs hfd ⊢
    rw [hd] at hfd ⊢
    rw [hs] at hfs ⊢
    have hrem : s.enc.rem - 3 = r := by omega
    obtain ⟨hsrc, hdst⟩ := encodeWhole_admitted ht hrem ⟨addA_add_le hfs, addA_add_le hfd⟩
    have one {a : Nat} := Span.admitted_one (p := s.plat) (a := a)
    have three := ((one a0).append (one a1) (by omega)).append (one a2) (by omega)
    exact ⟨three.append hsrc hfs, (w.span (by omega)).append hdst hfd⟩

/-- A whole `ENCODE` within the contract stops at an address that no memory backs if one of its views holds such an address. -/
theorem encode_stuck {s : State} {a : Nat} (hb : s.enc.busy = false) (hv : (encCommandViews s).Allowed s (decRunning s))
    (hh : (encCommandViews s).src.Holds a ∨ (encCommandViews s).dst.Holds a) (ha : s.plat.admits a = false) :
    ∃ b, s.plat.admits b = false ∧ exec .encode s = .fault (.unadmitted b) := by
  have e : exec .encode s = answer (encodeWhole (encLatch s)) := by simp [exec, execEncode, hb, encAccept_ok.2 ⟨hv, rfl⟩]
  rw [e]
  cases h : encodeWhole (encLatch s) with
  | ok t =>
    obtain ⟨hfs, hfd, -, -⟩ := hv
    obtain ⟨hs, hd⟩ := encodeWhole_admitted h rfl ⟨Span.fits_iff.1 hfs, Span.fits_iff.1 hfd⟩
    have hadm : s.plat.admits a = true := hh.elim (fun ⟨h1, h2⟩ => hs a h1 h2) fun ⟨h1, h2⟩ => hd a h1 h2
    exact absurd (ha.symm.trans hadm) (by decide)
  | error e =>
    rcases encodeWhole_stopsOnly (others := ∅) _ e h with ⟨b, hb, rfl⟩ | he
    · exact ⟨b, hb, rfl⟩
    · exact absurd he (Set.notMem_empty e)

theorem execEncode_unadmitted {s : State} {a : Nat} (h : execEncode s = .fault (.unadmitted a)) : s.plat.admits a = false := by
  unfold execEncode at h
  split at h
  · exact nomatch h
  · rcases encAccept_cases s with e | ⟨r, e⟩ <;> rw [e] at h
    · exact (encodeWhole_stopsOnly (others := ∅) (encLatch s)).unadmitted (Set.notMem_empty _) h
    · exact nomatch h

/-! ## The whole DECODE -/

/-- One pass of the loop of R85, through each class that decides. -/
theorem decodeGroup_stopsOnly {others : Set Stop} (s : State) : StopsOnly others s.plat (decodeGroup s) := by
  refine .fetch ?_
  rw [fetched_rlutOut]
  cases charAt s 0 with
  | pad => exact .ok
  | notB64 => exact .ok
  | data va =>
    refine .fetch ?_
    rw [fetched_rlutOut]
    cases charAt (shift va (fetched 0 (.data va) s)) 1 with
    | pad => exact .ok
    | notB64 => exact .ok
    | data vb =>
      refine .emit ?_
      refine .fetch ?_
      rw [fetched_rlutOut]
      generalize charAt _ 2 = c
      cases c with
      | notB64 => exact .ok
      | pad => exact .fetch .ok
      | data vc =>
        refine .fetch ?_
        rw [fetched_rlutOut]
        generalize charAt _ 3 = d
        cases d with
        | notB64 => exact .ok
        | pad => exact .emit .ok
        | data vd => exact .emit (.bind (.emit .ok) fun _ _ => .ok)

theorem decodeLoop_stopsOnly (n : Nat) (s : State) : StopsOnly {.fault .unterminated} s.plat (decodeLoop n s) := by
  induction n generalizing s with
  | zero => exact fun e h => .inr (Except.error.inj h).symm
  | succ n ih =>
    refine .bind (decodeGroup_stopsOnly s) fun ⟨b, u⟩ hu => ?_
    rw [← (decodeGroup_ok.1 hu).keeps.plat]
    cases b with
    | false => exact .ok
    | true => exact ih u

/-- A whole `DECODE` within the contract stops at its first character if no memory backs it. -/
theorem decode_stuck {s : State} {n : Nat} (hb : s.dec.busy = false) (hn : strLen s s.io.decSrc = some n)
    (hv : (decViews s.io.decDest s.io.decSrc n).Allowed s (encRunning s)) (ha : s.plat.admits s.io.decSrc = false) :
    exec .decode s = .fault (.unadmitted s.io.decSrc) := by
  have e : exec .decode s = answer (decodeLoop (n / 4 + 1) (decLatch s)) := by
    simp [exec, execDecode, hb, hn, (decAccept_some hn).2 ⟨hv, rfl⟩]
  obtain ⟨hfs, -⟩ := hv
  have hlt : s.io.decSrc + (n + 1) ≤ 2 ^ s.plat.aw := Span.fits_iff.1 hfs
  have h0 : s.addr s.io.decSrc 0 = s.io.decSrc := addr_of_lt (by omega)
  have hf : fetch 0 (decLatch s) = .error (.fault (.unadmitted s.io.decSrc)) := h0 ▸ fetch_stuck (h0.symm ▸ ha)
  rw [e, decodeLoop, decodeGroup, hf]
  rfl

theorem execDecode_unadmitted {s : State} {a : Nat} (h : execDecode s = .fault (.unadmitted a)) : s.plat.admits a = false := by
  unfold execDecode at h
  split at h
  · exact nomatch h
  · split at h
    · exact nomatch h
    · rcases decAccept_cases s with e | ⟨r, e⟩ <;> rw [e] at h
      · exact (decodeLoop_stopsOnly _ (decLatch s)).unadmitted (by simp) h
      · exact nomatch h

/-! ## Every row -/

theorem execDecFetch_unadmitted {k : Nat} {s : State} {a : Nat} (h : execDecFetch k s = .fault (.unadmitted a)) :
    s.plat.admits a = false := by
  unfold execDecFetch at h
  split at h
  · exact (fetch_stopsOnly k s).unadmitted (Set.notMem_empty _) h
  · exact nomatch h

/-- No row stops with this fault at an address that the memory admits. -/
theorem exec_unadmitted {i : Instr} {s : State} {a : Nat} (h : exec i s = .fault (.unadmitted a)) : s.plat.admits a = false := by
  have encAction := fun i hi => (encActions_act s i hi).unadmitted (a := a)
  have decAction := fun i hi => (decActions_act s i hi).unadmitted (a := a)
  simp only [List.forall_mem_cons] at encAction decAction
  obtain ⟨g3, t2, t1, t0, -⟩ := encAction
  obtain ⟨end0, failB, failC, failD, failDP, failPD, end1, end2, full, -⟩ := decAction
  have hm := exec_meaning i s
  generalize exec i s = r at hm h
  cases hm with
  | encode => exact execEncode_unadmitted h
  | decode => exact execDecode_unadmitted h
  | encStart => exact absurd h (execEncStart_ne_fault s _)
  | decStart => exact absurd h (execDecStart_ne_fault s _)
  | encG3 => exact g3 h
  | encT2 => exact t2 h
  | encT1 => exact t1 h
  | encT0 => exact t0 h
  | decEnd0 => exact end0 h
  | decFailB => exact failB h
  | decFailC => exact failC h
  | decFailD => exact failD h
  | decFailDP => exact failDP h
  | decFailPD => exact failPD h
  | decEnd1 => exact end1 h
  | decEnd2 => exact end2 h
  | decFull => exact full h
  | decFetch k => exact execDecFetch_unadmitted h
  | decShift v => exact nomatch h
  | decEmit1 => exact (emit_stopsOnly _ s).unadmitted (Set.notMem_empty _) h
  | decEmit2 => exact (emit_stopsOnly _ s).unadmitted (Set.notMem_empty _) h
  | alpha i c => exact nomatch h
  | rlut i x => exact nomatch h

theorem decFetch_stuck {s : State} (h : s.plat.admits (s.addr s.dec.src s.dec.k.toNat) = false) :
    exec (.decFetch s.dec.k.toNat) s = .fault (.unadmitted (s.addr s.dec.src s.dec.k.toNat)) := by
  simp [exec, execDecFetch, fetch_stuck h, answer]

theorem decEmits_stuck {s : State} (h : s.plat.admits s.dec.dst = false) :
    exec .decEmit1 s = .fault (.unadmitted s.dec.dst) ∧ exec .decEmit2 s = .fault (.unadmitted s.dec.dst) :=
  ⟨congrArg answer (emit_stuck _ h), congrArg answer (emit_stuck _ h)⟩

/-- Settles O14, clause by clause. -/
theorem unadmittedAccessIsStuck : Obligations.UnadmittedAccessIsStuck := by
  intro s a
  refine ⟨?encActions, ?decActions, ?fetch, ?emits, ?encode, ?decode, fun i => exec_unadmitted⟩
  case encActions => exact fun i _ hb hp hi ha => encAction_stuck hb hp hi ha
  case decActions => exact fun i hi ha => (decActions_act s i hi).stuck ha
  case fetch => rintro k rfl rfl ha; exact decFetch_stuck ha
  case emits => rintro rfl ha; exact decEmits_stuck ha
  case encode => exact fun hb hv hh ha => encode_stuck hb hv hh ha
  case decode => rintro n hb hn hv rfl ha; exact decode_stuck hb hn hv ha

end Sys2Proof.Machine
end

section
/-!
The record of a row read back (30_encoding.md R55, R62, R63, R64, R66; notes/assumptions/11): the format's number names the format, and the
format's own decoder reads the row's word.
-/

namespace Sys2Proof.Machine

/-- The word of every row, read in the row's own format, is that row: only the rows with an operand have more than one word. -/
theorem decodeAs_word (i : Instr) : Laws.WordRoundTrip.Statement i := by
  cases i with
  | decFetch k => exact Laws.WordRoundTrip.decFetch k
  | decShift v => exact Laws.WordRoundTrip.decShift v
  | _ => exact fun _ => rfl

/-- A record whose second byte is a format's number is read by that format's decoder. -/
theorem decode_tag (f : Format) (w : Byte) (rest : List Byte) :
    decode (w :: f.tag :: rest) = (decodeAs f w).map (fun i => (i, rest)) := by
  cases f <;> rfl

/-- Settles O1: the format's number leads to the format's decoder, and that reads the row's word. -/
theorem recordRoundTrip : Obligations.RecordRoundTrip := by
  intro i rest hi
  calc decode (encode i ++ rest)
      = (decodeAs i.format i.word).map (fun j => (j, rest)) := decode_tag i.format i.word rest
    _ = .ok (i, rest) := by rw [decodeAs_word i hi]; rfl

end Sys2Proof.Machine
end

section
/-!
The class codes and the two action maps (30_encoding.md R61, R63, R64, R65): a row of the decoder action map is found by the class codes
alone, of which there are three.
-/

namespace Sys2Proof.Machine

/-! ## Class codes -/

/-- The codes that classes have: all but `01` (R65 (b)). -/
def classCodes : List (BitVec 2) := [0b00#2, 0b10#2, 0b11#2]

theorem classCode_mem (x : CharClass) : classCode x ∈ classCodes := by
  cases x with
  | data v => rw [classCode_data]; decide
  | pad => decide
  | notB64 => decide

/-- The upper bit of the class code is `nd`: set for everything but a data character (R61). -/
theorem classCode_msb (x : CharClass) : (classCode x).msb = !isData x := by
  cases x with
  | data v => rw [classCode_data]; rfl
  | pad => rfl
  | notB64 => rfl

/-- Settles O9: the stored form of a data character has its two upper bits 0, and the other two forms are constants. -/
theorem storedFormsAreClassCodes : Obligations.StoredFormsAreClassCodes := by
  refine ⟨fun v => ⟨rfl, classCode_data v⟩, ⟨rfl, rfl⟩, ⟨rfl, rfl⟩, fun x h => ?_⟩
  have hx := classCode_mem x
  rw [h] at hx
  exact absurd hx (by decide)

/-! ## The decoder action map -/

/-- Any four codes of classes are selected by one of the nine rows, and by one only (R63). -/
theorem decActRows_exclusive :
    ∀ a ∈ classCodes, ∀ b ∈ classCodes, ∀ c ∈ classCodes, ∀ d ∈ classCodes,
      (decActRows.filter (fun q => q.selects (decActWord a b c d))).length = 1 := by
  decide

/-- Settles O2, over the three codes that classes have. -/
theorem decoderActionMapExclusive : Obligations.DecoderActionMapExclusive := fun a b c d =>
  List.length_eq_one_iff.1
    (decActRows_exclusive _ (classCode_mem a) _ (classCode_mem b) _ (classCode_mem c) _ (classCode_mem d))

/-- A first character that is no data character decides alone. -/
theorem decodeDecAct_first : ∀ a b c d : BitVec 2, a.msb = true → decodeDecAct (decActWord a b c d) = .ok .decEnd0 := by
  decide

/-- After one data character, a second that is no data character decides. -/
theorem decodeDecAct_second : ∀ b c d : BitVec 2, b.msb = true → decodeDecAct (decActWord 0b00#2 b c d) = .ok .decFailB := by
  decide

/-- After two data characters, a third that is `NotB64` decides. -/
theorem decodeDecAct_third : ∀ d : BitVec 2, decodeDecAct (decActWord 0b00#2 0b00#2 0b10#2 d) = .ok .decFailC := by
  decide

/-- Settles O3, row by row: the last six rows examine all four codes. -/
theorem decoderActionMapRows : Obligations.DecoderActionMapRows := by
  intro a b c d va vb vc vd
  simp only [classCode_data, classCode_pad, classCode_notB64]
  refine ⟨fun h => ?first, fun h => ?second, decodeDecAct_third _, rfl, rfl, rfl, rfl, rfl, rfl⟩
  case first => exact decodeDecAct_first _ _ _ _ (by rw [classCode_msb, h]; rfl)
  case second => exact decodeDecAct_second _ _ _ (by rw [classCode_msb, h]; rfl)

/-! ## The encoder action map -/

/-- Settles O4: the selector's word is `min(E.rem, 3)`, and each of its four values is a row's word. -/
theorem encoderActionMapRows : Obligations.EncoderActionMapRows := by
  intro u
  have word {m : Nat} (h : min u.rem 3 = m) : encActWord u = BitVec.ofNat 8 m := congrArg (BitVec.ofNat 8) h
  refine ⟨fun h => ?_, fun h => ?_, fun h => ?_, fun h => ?_⟩
  · rw [word (m := 3) (by omega)]; rfl
  · rw [word (m := 2) (by omega)]; rfl
  · rw [word (m := 1) (by omega)]; rfl
  · rw [word (m := 0) (by omega)]; rfl

/-! ## Words written out -/

/-- Settles O5, by reading each of the words. -/
theorem specWordsDecode : Obligations.SpecWordsDecode :=
  ⟨rfl, rfl, rfl, rfl, rfl, rfl, rfl, rfl, rfl, rfl, rfl, rfl, rfl, rfl, rfl, rfl⟩

end Sys2Proof.Machine
end

section
/-!
The rows of the two tables, their closed forms, and that the two forms undo each other (10_state.md R11, R12; 30_encoding.md R55, R61, R62).
-/

namespace Sys2Proof.Machine

/-! ## The rows of a table -/

/-- Where the rows of a table, run one after another, answer the states of a list, the row at place `n` answers the state there. -/
theorem row_answers {rows : List Instr} {N : Nat} {f : Nat → State} {s : State}
    (h : rows.map (fun i => exec i s) = (List.range N).map (fun n => .next (f n))) {n : Nat} (hn : n < N) :
    ∃ i, rows[n]? = some i ∧ exec i s = .next (f n) := by
  have hrow : (rows.map (fun i => exec i s))[n]? = some (.next (f n)) := by
    rw [h, List.getElem?_map, List.getElem?_range hn]; rfl
  rw [List.getElem?_map] at hrow
  exact Option.map_eq_some_iff.1 hrow

/-- The 64 rows of `ALPHA`, in order, answer the closed form of R55. -/
theorem alphaInstrs_answer (s : State) :
    alphaInstrs.map (fun i => exec i s) =
      (List.range 64).map (fun n => .next (alphaAnswers s (alphaAt (BitVec.ofNat 6 n)))) := rfl

/-- The 256 rows of `RLUT`, in order, answer the ranges of R62. They are read in two halves, each short enough to be evaluated at
once. -/
theorem rlutInstrs_answer (s : State) :
    rlutInstrs.map (fun i => exec i s) =
      (List.range 256).map (fun n => .next (rlutAnswers s (classify (BitVec.ofNat 8 n)))) := by
  rw [← List.take_append_drop 128 rlutInstrs, List.map_append, List.range_add (n := 128) (m := 128), List.map_append, List.map_map]
  exact congrArg₂ (· ++ ·) rfl rfl

/-- Settles O6: the row at place `v` is one of the 64. -/
theorem alphaRowsAnswerTheAlphabet : Obligations.AlphaRowsAnswerTheAlphabet := by
  intro v s
  have h := row_answers (alphaInstrs_answer s) v.isLt
  rwa [BitVec.ofNat_toNat, BitVec.setWidth_eq] at h

/-- Settles O7: the row at place `c` is one of the 256. -/
theorem rlutRowsAnswerTheClassification : Obligations.RlutRowsAnswerTheClassification := by
  intro c s
  have h := row_answers (rlutInstrs_answer s) c.isLt
  rwa [BitVec.ofNat_toNat, BitVec.setWidth_eq] at h

/-! ## The two closed forms -/

/-- The closed form of R55, at an index written as a number. -/
theorem alphaAt_ofNat {n : Nat} (h : n < 64) :
    alphaAt (BitVec.ofNat 6 n) =
      if n ≤ 25 then BitVec.ofNat 8 (0x41 + n)
      else if n ≤ 51 then BitVec.ofNat 8 (0x61 + (n - 26))
      else if n ≤ 61 then BitVec.ofNat 8 (0x30 + (n - 52))
      else if n = 62 then 0x2B#8 else 0x2F#8 := by
  simp only [alphaAt, BitVec.toNat_ofNat, Nat.mod_eq_of_lt (show n < 2 ^ 6 from h)]

/-- A data character is the character of its sextet: range by range, R62's offset undoes R55's. -/
theorem alphaAt_of_classify {c : Byte} {v : Sextet} (h : classify c = .data v) : alphaAt v = c := by
  obtain ⟨n, hn, rfl⟩ : ∃ n < 256, c = BitVec.ofNat 8 n := ⟨c.toNat, c.isLt, by simp⟩
  simp only [classify, BitVec.toNat_ofNat, Nat.mod_eq_of_lt (show n < 2 ^ 8 from hn)] at h
  split at h
  case isTrue plus => cases h; rw [plus]; rfl
  split at h
  case isTrue slash => cases h; rw [slash]; rfl
  split at h
  case isTrue digit =>
    cases h
    rw [alphaAt_ofNat (by omega), if_neg (by omega), if_neg (by omega), if_pos (by omega),
      show 0x30 + (52 + (n - 0x30) - 52) = n by omega]
  split at h
  case isTrue => cases h
  split at h
  case isTrue upper =>
    cases h
    rw [alphaAt_ofNat (by omega), if_pos (by omega), show 0x41 + (n - 0x41) = n by omega]
  split at h
  case isTrue lower =>
    cases h
    rw [alphaAt_ofNat (by omega), if_neg (by omega), if_pos (by omega), show 0x61 + (26 + (n - 0x61) - 26) = n by omega]
  case isFalse => cases h

theorem classify_alphaAt : ∀ v : Sextet, classify (alphaAt v) = .data v := by decide

theorem classify_eq_pad : ∀ c : Byte, classify c = .pad ↔ c = PAD := by decide

/-- Settles O8: each closed form undoes the other. -/
theorem tablesAreInverse : Obligations.TablesAreInverse :=
  ⟨fun c v => ⟨fun h => (alphaAt_of_classify h).symm, fun h => by rw [h, classify_alphaAt]⟩, classify_eq_pad, rfl⟩

end Sys2Proof.Machine
end

section
/-!
The bits of the sextets and the bytes of a group (30_encoding.md R57, R58, R59): every shift and mask of the tables' right columns is a run
of the operands' bits, and so is every slice of the group register and of the shifter.
-/

namespace Sys2Proof.Machine

/-! ## The shifts and masks, bit by bit -/

section
variable (a b c : Byte) {i : Nat} (hi : i < 6)
include hi

theorem slice0_bit : (slice0 a).getLsbD i = a.getLsbD (i + 2) := by
  simp [slice0, hi, Nat.add_comm]

theorem slice1_bit : (slice1 a b).getLsbD i = if i < 4 then b.getLsbD (i + 4) else a.getLsbD (i - 4) := by
  interval_cases i <;> simp [slice1]

theorem slice2_bit : (slice2 b c).getLsbD i = if i < 2 then c.getLsbD (i + 6) else b.getLsbD (i - 2) := by
  interval_cases i <;> simp [slice2]

theorem slice3_bit : (slice3 c).getLsbD i = c.getLsbD i := by
  interval_cases i <;> simp [slice3]

end

section
variable (va vb vc vd : Sextet) {i : Nat} (hi : i < 8)
include hi

theorem pack1_bit : (pack1 va vb).getLsbD i = if i < 2 then vb.getLsbD (i + 4) else va.getLsbD (i - 2) := by
  interval_cases i <;> simp [pack1]

theorem pack2_bit : (pack2 vb vc).getLsbD i = if i < 4 then vc.getLsbD (i + 2) else vb.getLsbD (i - 4) := by
  interval_cases i <;> simp [pack2]

theorem pack3_bit : (pack3 vc vd).getLsbD i = if i < 6 then vd.getLsbD i else vc.getLsbD (i - 6) := by
  interval_cases i <;> simp [pack3]

end

/-! ## The slices of the group register and of the shifter -/

/-- Settles O10: the two sides of each row of R58 have the same six bits. -/
theorem sextetAssembly : Obligations.SextetAssembly := by
  intro a b c
  refine ⟨BitVec.eq_of_getLsbD_eq fun i hi => ?_, BitVec.eq_of_getLsbD_eq fun i hi => ?_, BitVec.eq_of_getLsbD_eq fun i hi => ?_,
    BitVec.eq_of_getLsbD_eq fun i hi => ?_⟩
  · rw [slice0_bit _ hi]; simp only [sextet0, BitVec.getLsbD_extractLsb', hi, joinBytes_bit]; grind
  · rw [slice1_bit _ _ hi]; simp only [sextet1, BitVec.getLsbD_extractLsb', hi, joinBytes_bit]; grind
  · rw [slice2_bit _ _ hi]; simp only [sextet2, BitVec.getLsbD_extractLsb', hi, joinBytes_bit]; grind
  · rw [slice3_bit _ hi]; simp only [sextet3, BitVec.getLsbD_extractLsb', hi, joinBytes_bit]; grind

/-- Settles O11: the two sides of each row of R59 have the same eight bits, none of which the shifter held before. -/
theorem byteAssembly : Obligations.ByteAssembly := by
  intro sh va vb vc vd
  refine ⟨BitVec.eq_of_getLsbD_eq fun i hi => ?_, BitVec.eq_of_getLsbD_eq fun i hi => ?_, BitVec.eq_of_getLsbD_eq fun i hi => ?_⟩
  · rw [pack1_bit _ _ hi]; simp only [byte1, BitVec.getLsbD_extractLsb', hi, shiftIn_bit]; grind
  · rw [pack2_bit _ _ hi]; simp only [byte2, BitVec.getLsbD_extractLsb', hi, shiftIn_bit]; grind
  · rw [pack3_bit _ _ hi]; simp only [byte3, BitVec.getLsbD_extractLsb', hi, shiftIn_bit]; grind

/-! ## Both readings of a group -/

/-- The bytes packed from the sextets cut from three bytes are the three bytes. -/
theorem pack_slices (a b c : Byte) :
    pack1 (slice0 a) (slice1 a b) = a ∧ pack2 (slice1 a b) (slice2 b c) = b ∧ pack3 (slice2 b c) (slice3 c) = c := by
  refine ⟨BitVec.eq_of_getLsbD_eq fun i hi => ?_, BitVec.eq_of_getLsbD_eq fun i hi => ?_, BitVec.eq_of_getLsbD_eq fun i hi => ?_⟩
  · rw [pack1_bit _ _ hi]; grind [slice0_bit, slice1_bit]
  · rw [pack2_bit _ _ hi]; grind [slice1_bit, slice2_bit]
  · rw [pack3_bit _ _ hi]; grind [slice2_bit, slice3_bit]

/-- The sextets cut from the bytes packed from four sextets are the four sextets. -/
theorem slice_packs (va vb vc vd : Sextet) :
    slice0 (pack1 va vb) = va ∧ slice1 (pack1 va vb) (pack2 vb vc) = vb ∧ slice2 (pack2 vb vc) (pack3 vc vd) = vc ∧
      slice3 (pack3 vc vd) = vd := by
  refine ⟨BitVec.eq_of_getLsbD_eq fun i hi => ?_, BitVec.eq_of_getLsbD_eq fun i hi => ?_, BitVec.eq_of_getLsbD_eq fun i hi => ?_,
    BitVec.eq_of_getLsbD_eq fun i hi => ?_⟩
  · rw [slice0_bit _ hi]; grind [pack1_bit]
  · rw [slice1_bit _ _ hi]; grind [pack1_bit, pack2_bit]
  · rw [slice2_bit _ _ hi]; grind [pack2_bit, pack3_bit]
  · rw [slice3_bit _ hi]; grind [pack3_bit]

/-- Settles O12, one direction each. -/
theorem groupReadsBothWays : Obligations.GroupReadsBothWays := ⟨pack_slices, slice_packs⟩

end Sys2Proof.Machine
end

section
/-!
Rows as steps of the machine: the row of the request channel in one step (30_encoding.md R66; notes/assumptions/13), and the row of a unit
access by access where only that unit has work (20_memory.md R39, R41; 30_encoding.md R63, R64; 40_encoder.md R71, R81; 41_decoder.md R86,
R106; notes/assumptions/3 and 7).
-/

namespace Sys2Proof.Machine

/-! ## The requested row -/

/-- Settles O49: a record on the request channel is selected before any agent. -/
theorem stepRunsTheRequestedRow : Obligations.StepRunsTheRequestedRow := by
  intro s i rest hr hd
  have hq : s.request ≠ [] := fun h => by rw [h] at hd; exact nomatch hd
  have hsel : select s = .run i (s.withRequest []) := by rw [select_request hr hq, requestStep, hd]
  rw [step_eq_outcomeOf, hsel]
  rfl

/-! ## One agent with work -/

theorem step_eq_agents {s : State} (hr : s.io.rst = false) (hq : s.request = []) : step s = outcomeOf (agentsStep s) := by
  rw [step_eq_outcomeOf, select_agents hr hq]

/-- Where the only agent with work is stuck, the agents' step stops at its address. -/
theorem agentsStep_onlyStuck {s : State} {x : Agent} {a : Nat} (h : ∀ y, hasWork s y = true → y = x) (hx : stuckAt s x = some a) :
    agentsStep s = .stop (.fault (.unadmitted a)) := by
  have hnone : enabled s = [] := List.eq_nil_iff_forall_not_mem.2 fun y hy => by
    obtain rfl := h y (mem_enabled.1 hy).1
    exact not_mem_enabled_of_stuck hx hy
  have hstop : agentsStep s = nobodySteps s := by rw [agentsStep, hnone]
  rcases nobodySteps_cases s with ⟨hfree, -⟩ | ⟨y, b, hy, e⟩
  · exact nomatch hx.symm.trans (hfree x)
  · obtain rfl := h y (stuckAt_some.1 hy).1
    obtain rfl : a = b := Option.some.inj (hx.symm.trans hy)
    exact hstop.trans e

theorem OnlyEnc.hasWork {s : State} (h : OnlyEnc s) (y : Agent) (hy : hasWork s y = true) : y = .enc := by
  obtain ⟨-, -, hscript, hbusy, hstart⟩ := h
  cases y with
  | host => simp [Machine.hasWork, hscript] at hy
  | enc => rfl
  | dec => simp [Machine.hasWork, hbusy, hstart] at hy

theorem OnlyDec.hasWork {s : State} (h : OnlyDec s) (y : Agent) (hy : hasWork s y = true) : y = .dec := by
  obtain ⟨-, -, hscript, hbusy, hstart⟩ := h
  cases y with
  | host => simp [Machine.hasWork, hscript] at hy
  | enc => simp [Machine.hasWork, hbusy, hstart] at hy
  | dec => rfl

/-! ## The encoder -/

/-- A command presented to an idle encoder makes the step `ENC.START` (R71). -/
theorem OnlyEnc.step_start {s : State} (h : OnlyEnc s) (hb : s.enc.busy = false) (hs : s.io.encStart = true) :
    step s = exec .encStart s := by
  have hw : Machine.hasWork s .enc = true := by simp [Machine.hasWork, hs]
  have hfree : stuckAt s .enc = none := by simp [stuckAt, nextAccess, hb]
  rw [step_eq_agents h.1 h.2.1, agentsStep_only (h.enabled hw hfree), agentStep_encStart hb hs]
  rfl

theorem OnlyEnc.step_stuck {s : State} (h : OnlyEnc s) (hb : s.enc.busy = true) (ha : s.plat.admits (encNext s) = false) :
    step s = .fault (.unadmitted (encNext s)) := by
  rw [step_eq_agents h.1 h.2.1, agentsStep_onlyStuck h.hasWork (encBusy_stuck hb ha)]
  rfl

theorem le_rem_of_encM {u : EncUnit} (h : encM u = 3) : 3 ≤ u.rem := h ▸ Nat.min_le_left _ _

theorem rem_eq_of_encM {u : EncUnit} {m : Nat} (h : encM u = m) (hm : m < 3) : u.rem = m := by
  unfold encM at h; omega

/-- A row of the encoder that answers is as many steps as its body is accesses. -/
theorem OnlyEnc.run_row {s t : State} {n m : Nat} {body : State → Res State} (ho : OnlyEnc s)
    (h : answer (whenEncSelects m s body) = .next t)
    (hc : s.enc.busy = true → s.enc.phase = .read1 → encM s.enc = m → body s = .ok t → EncChain n s t) : run n s = .next t := by
  obtain ⟨hb, hp, hm, ht⟩ := whenEncSelects_ok.1 (answer_eq_next.1 h)
  exact (hc hb hp hm ht).run ho

theorem OnlyEnc.run_rows {s : State} (ho : OnlyEnc s) :
    ∀ i ∈ [Instr.encG3, .encT2, .encT1, .encT0], ∀ t, exec i s = .next t → run (encAccesses i s).length s = .next t := by
  simp only [List.forall_mem_cons]
  refine ⟨fun t h => ?g3, fun t h => ?t2, fun t h => ?t1, fun t h => ?t0, nofun⟩
  case g3 => exact ho.run_row h fun hb hp hm => encGroup_chain hb hp (le_rem_of_encM hm)
  case t2 => exact ho.run_row h fun hb hp hm => encTail2_chain hb hp (rem_eq_of_encM hm (by decide))
  case t1 => exact ho.run_row h fun hb hp hm => encTail1_chain hb hp (rem_eq_of_encM hm (by decide))
  case t0 => exact ho.run_row h fun hb hp hm => encFinish_chain hb hp (rem_eq_of_encM hm (by decide))

/-- Settles O50: a row that answers is a chain of accesses, and a chain of accesses is as many steps. -/
theorem stepRunsTheEncoder : Obligations.StepRunsTheEncoder := by
  intro s hr hq hs hb hd
  have ho : OnlyEnc s := ⟨hr, hq, hs, hb, hd⟩
  exact ⟨ho.step_start, ho.run_rows, ho.step_stuck⟩

/-! ## The decoder -/

/-- A command presented to an idle decoder makes the step `DEC.START` (R86). -/
theorem OnlyDec.step_start {s : State} (h : OnlyDec s) (hb : s.dec.busy = false) (hs : s.io.decStart = true) :
    step s = exec .decStart s := by
  have hw : Machine.hasWork s .dec = true := by simp [Machine.hasWork, hs]
  have hfree : stuckAt s .dec = none := by simp [stuckAt, nextAccess, hb]
  rw [step_eq_agents h.1 h.2.1, agentsStep_only (h.enabled hw hfree), agentStep_decStart hb hs]
  rfl

theorem OnlyDec.step_stuck {s : State} (h : OnlyDec s) (hb : s.dec.busy = true) (ha : s.plat.admits (decNext s) = false) :
    step s = .fault (.unadmitted (decNext s)) := by
  rw [step_eq_agents h.1 h.2.1, agentsStep_onlyStuck h.hasWork (decBusy_stuck hb ha)]
  rfl

/-- A group action that answers is as many steps as its body is accesses. -/
theorem OnlyDec.run_row {s t : State} {n : Nat} {body : State → Res State} (ho : OnlyDec s)
    (h : answer (whenDecBusy s body) = .next t)
    (hc : s.dec.busy = true → s.dec.phase = .read1 → body s = .ok t → DecChain n s t) : run n s = .next t := by
  obtain ⟨hb, hp, ht⟩ := whenDecBusy_ok.1 (answer_eq_next.1 h)
  exact (hc hb hp ht).run ho

theorem OnlyDec.run_rows {s : State} (ho : OnlyDec s) :
    ∀ i ∈ [Instr.decEnd0, .decFailB, .decFailC, .decFailD, .decFailDP, .decFailPD, .decEnd1, .decEnd2, .decFull], ∀ t,
      exec i s = .next t → run (decAccesses i s).length s = .next t := by
  simp only [List.forall_mem_cons]
  exact ⟨fun _ h => ho.run_row h decEnd0_chain, fun _ h => ho.run_row h decFailB_chain, fun _ h => ho.run_row h decFailC_chain,
    fun _ h => ho.run_row h decFailD_chain, fun _ h => ho.run_row h decFailDP_chain, fun _ h => ho.run_row h decFailPD_chain,
    fun _ h => ho.run_row h decEnd1_chain, fun _ h => ho.run_row h decEnd2_chain, fun _ h => ho.run_row h decFull_chain, nofun⟩

/-- Settles O51: a group action that answers is a chain of accesses, and a chain of accesses is as many steps. -/
theorem stepRunsTheDecoder : Obligations.StepRunsTheDecoder := by
  intro s hr hq hs hb hd
  have ho : OnlyDec s := ⟨hr, hq, hs, hb, hd⟩
  exact ⟨ho.step_start, ho.run_rows, ho.step_stuck⟩

end Sys2Proof.Machine
end

section
/-!
The encoder's rows at the step level (40_encoder.md R71 to R75, R81): what each answers where the selector selects it, what it leaves alone, and
that the selector's word leaves exactly one of them.
-/

namespace Sys2Proof.Machine

/-! ## The rows that are selected -/

theorem encM_eq_of_rem {u : EncUnit} {m : Nat} (h : u.rem = m) (hm : m ≤ 3) : encM u = m := by
  unfold encM; omega

theorem encM_eq_three {u : EncUnit} (h : 3 ≤ u.rem) : encM u = 3 := Nat.min_eq_right h

/-- Where the selector selects it, a group action answers what its body answers (30_encoding.md R64). -/
theorem encAction_next {m : Nat} {s t : State} {body : State → Res State} (hb : s.enc.busy = true) (hp : s.enc.phase = .read1)
    (hm : encM s.enc = m) (h : body s = .ok t) : answer (whenEncSelects m s body) = .next t :=
  answer_eq_next.2 (whenEncSelects_ok.2 ⟨hb, hp, hm, h⟩)

/-- A full group, its characters by the shifts and masks of 30_encoding.md R58. -/
theorem encGroup_slices {s : State}
    (hr : s.plat.admits s.enc.src = true ∧ s.plat.admits (s.addr s.enc.src 1) = true ∧ s.plat.admits (s.addr s.enc.src 2) = true)
    (hw : FourAdmitted s) :
    let a := s.mem.get s.enc.src
    let b := s.mem.get (s.addr s.enc.src 1)
    let c := s.mem.get (s.addr s.enc.src 2)
    encGroup s = .ok (groupDone s (joinBytes a b c)
      (fourBytes s (alphaAt (slice0 a)) (alphaAt (slice1 a b)) (alphaAt (slice2 b c)) (alphaAt (slice3 c)))
      (alphaAt (slice3 c)) 3 (s.enc.rem - 3)) := by
  intro a b c
  obtain ⟨h0, h1, h2, h3⟩ := sextetAssembly a b c
  have hg : groupAtSrc s = joinBytes a b c := rfl
  rw [encGroup_ok.2 ⟨hr, hw, rfl⟩, hg, h0, h1, h2, h3]

/-- The tail of two bytes, in the same form. -/
theorem encTail2_slices {s : State} (hr : s.plat.admits s.enc.src = true ∧ s.plat.admits (s.addr s.enc.src 1) = true)
    (hw : FourAdmitted s) :
    let a := s.mem.get s.enc.src
    let b := s.mem.get (s.addr s.enc.src 1)
    encTail2 s = .ok (groupDone s (joinBytes a b 0#8)
      (fourBytes s (alphaAt (slice0 a)) (alphaAt (slice1 a b)) (alphaAt (slice2 b 0#8)) PAD) (alphaAt (slice2 b 0#8)) 2 0) := by
  intro a b
  obtain ⟨h0, h1, h2, -⟩ := sextetAssembly a b 0#8
  have hg : pairAtSrc s = joinBytes a b 0#8 := rfl
  rw [encTail2_ok.2 ⟨hr, hw, rfl⟩, hg, h0, h1, h2]

/-- The tail of one byte, in the same form. -/
theorem encTail1_slices {s : State} (hr : s.plat.admits s.enc.src = true) (hw : FourAdmitted s) :
    let a := s.mem.get s.enc.src
    encTail1 s = .ok (groupDone s (joinBytes a 0#8 0#8)
      (fourBytes s (alphaAt (slice0 a)) (alphaAt (slice1 a 0#8)) PAD PAD) (alphaAt (slice1 a 0#8)) 1 0) := by
  intro a
  obtain ⟨h0, h1, -, -⟩ := sextetAssembly a 0#8 0#8
  have hg : byteAtSrc s = joinBytes a 0#8 0#8 := rfl
  rw [encTail1_ok.2 ⟨hr, hw, rfl⟩, hg, h0, h1]

/-- Settles O16: the row is its body, and the body's characters are those of R58. -/
theorem encG3EncodesAGroup : Obligations.EncG3EncodesAGroup := by
  intro s hb hp hr a0 a1 a2 w0 w1 w2 w3
  exact ⟨_, encAction_next hb hp (encM_eq_three hr) (encGroup_slices ⟨a0, a1, a2⟩ ⟨w0, w1, w2, w3⟩)⟩

/-- Settles O17: the row is its body, the third byte being 0. -/
theorem encT2EncodesTwoBytes : Obligations.EncT2EncodesTwoBytes := by
  intro s hb hp hr a0 a1 w0 w1 w2 w3
  exact ⟨_, encAction_next hb hp (encM_eq_of_rem hr (by decide)) (encTail2_slices ⟨a0, a1⟩ ⟨w0, w1, w2, w3⟩)⟩

/-- Settles O18: the row is its body, the second and the third byte being 0. -/
theorem encT1EncodesOneByte : Obligations.EncT1EncodesOneByte := by
  intro s hb hp hr a0 w0 w1 w2 w3
  exact ⟨_, encAction_next hb hp (encM_eq_of_rem hr (by decide)) (encTail1_slices a0 ⟨w0, w1, w2, w3⟩)⟩

/-- Settles O19: the row is its body. -/
theorem encT0Terminates : Obligations.EncT0Terminates := by
  intro s hb hp hr w
  exact encAction_next hb hp (encM_eq_of_rem hr (by decide)) (encFinish_ok.2 ⟨w, rfl⟩)

/-- Without a command, or with a busy encoder, `ENC.START` changes nothing (R71). -/
theorem execEncStart_ignored {s : State} (h : s.enc.busy = true ∨ s.io.encStart = false) : execEncStart s = .next s := by
  rcases h with h | h <;> simp [execEncStart, h]

/-- Settles O15: an allowed command is latched, and nothing else has an effect. -/
theorem encStartAccepts : Obligations.EncStartAccepts := fun _ =>
  ⟨execEncStart_allowed, fun h => execEncStart_ignored (.inl h), fun h => execEncStart_ignored (.inr h)⟩

/-! ## Exactly one row is selected -/

/-- An operation that stops at an unadmitted access only is not refused. -/
theorem Makes.not_refused {p : Platform} {l : List Nat} {x : Res State} (h : Makes ∅ p l x) (r : Refusal) : answer x ≠ .refused r := by
  cases x with
  | ok t => exact nofun
  | error e =>
    rcases h with ⟨a, -, rfl⟩ | he
    · exact nofun
    · exact absurd he (Set.notMem_empty e)

/-- The word of the encoder action map is always a row's (30_encoding.md R64). -/
theorem encActWord_decodes (u : EncUnit) :
    ∃ i ∈ [Instr.encG3, .encT2, .encT1, .encT0], decodeEncAct (encActWord u) = .ok i := by
  obtain ⟨h3, h2, h1, h0⟩ := encoderActionMapRows u
  have hr : 3 ≤ u.rem ∨ u.rem = 2 ∨ u.rem = 1 ∨ u.rem = 0 := by omega
  rcases hr with hr | hr | hr | hr
  · exact ⟨_, by simp, h3 hr⟩
  · exact ⟨_, by simp, h2 hr⟩
  · exact ⟨_, by simp, h1 hr⟩
  · exact ⟨_, by simp, h0 hr⟩

/-- The row that the selector's word names is not refused. -/
theorem encAction_selected {i : Instr} {s : State} (hb : s.enc.busy = true) (hp : s.enc.phase = .read1)
    (hi : decodeEncAct (encActWord s.enc) = .ok i) (r : Refusal) : exec i s ≠ .refused r := by
  have runs {m : Nat} {l : List Nat} {body : State → Res State} (h : Makes ∅ s.plat l (body s)) (hm : encM s.enc = m) :
      answer (whenEncSelects m s body) ≠ .refused r := by
    rw [whenEncSelects_selected body hb hp hm]
    exact h.not_refused r
  rcases encM_of_decode hi with ⟨rfl, hm⟩ | ⟨rfl, hm⟩ | ⟨rfl, hm⟩ | ⟨rfl, hm⟩
  · exact runs (encGroup_makes s) hm
  · exact runs (encTail2_makes s) hm
  · exact runs (encTail1_makes s) hm
  · exact runs (encFinish_makes s) hm

/-- A row that the selector's word does not name is not selected. -/
theorem encAction_other {j : Instr} {s : State} (hj : j ∈ [Instr.encG3, .encT2, .encT1, .encT0])
    (h : decodeEncAct (encActWord s.enc) ≠ .ok j) : exec j s = .refused .notSelected := by
  have other {m : Nat} {body : State → Res State} (hd : decodeEncAct (BitVec.ofNat 8 m) = .ok j) :
      answer (whenEncSelects m s body) = .refused .notSelected := by
    have hm : encM s.enc ≠ m := fun hm => h (by rw [encActWord, hm, hd])
    rw [whenEncSelects_other body hm, answer_refuse]
  simp only [List.mem_cons, List.not_mem_nil, or_false] at hj
  rcases hj with rfl | rfl | rfl | rfl
  · exact other (m := 3) rfl
  · exact other (m := 2) rfl
  · exact other (m := 1) rfl
  · exact other (m := 0) rfl

/-- Settles O21: the row enabled is the one the selector's word names. -/
theorem oneEncoderActionEnabled : Obligations.OneEncoderActionEnabled := by
  intro s hb hp
  obtain ⟨i, hi, hd⟩ := encActWord_decodes s.enc
  refine ⟨i, hi, hd, encAction_selected hb hp hd, fun j hj hne => encAction_other hj fun h => hne ?_⟩
  exact Except.ok.inj (h.symm.trans hd)

/-! ## What the rows leave alone -/

/-- The rows that write four characters all leave a state of one form. -/
theorem encAction_groupDone {i : Instr} {s t : State} (hi : i ∈ [Instr.encG3, .encT2, .encT1]) (h : exec i s = .next t) :
    ∃ g c0 c1 c2 c3 x n r, t = groupDone s g (fourBytes s c0 c1 c2 c3) x n r := by
  simp only [List.mem_cons, List.not_mem_nil, or_false] at hi
  rcases hi with rfl | rfl | rfl
  · obtain ⟨-, -, rfl⟩ := encGroup_ok.1 (whenEncSelects_next h)
    exact ⟨_, _, _, _, _, _, _, _, rfl⟩
  · obtain ⟨-, -, rfl⟩ := encTail2_ok.1 (whenEncSelects_next h)
    exact ⟨_, _, _, _, _, _, _, _, rfl⟩
  · obtain ⟨-, -, rfl⟩ := encTail1_ok.1 (whenEncSelects_next h)
    exact ⟨_, _, _, _, _, _, _, _, rfl⟩

theorem encStores_groupAction {i : Instr} (s : State) (hi : i ∈ [Instr.encG3, .encT2, .encT1]) :
    encStores i s = [s.enc.dst, s.addr s.enc.dst 1, s.addr s.enc.dst 2, s.addr s.enc.dst 3] := by
  simp only [List.mem_cons, List.not_mem_nil, or_false] at hi
  rcases hi with rfl | rfl | rfl <;> rfl

/-- Four writes at `E.dst` leave every other byte alone. -/
theorem fourBytes_outside {s : State} {a : Nat} (c0 c1 c2 c3 : Byte)
    (h : a ∉ [s.enc.dst, s.addr s.enc.dst 1, s.addr s.enc.dst 2, s.addr s.enc.dst 3]) :
    (fourBytes s c0 c1 c2 c3).get a = s.mem.get a := by
  simp only [List.mem_cons, List.not_mem_nil, or_false, not_or] at h
  obtain ⟨h0, h1, h2, h3⟩ := h
  exact fourBytes_other h0 h1 h2 h3

/-- Settles O20: `ENC.START` and `ENC.T0` each write what their rule says, and the other three leave a state of one form. -/
theorem encoderFrame : Obligations.EncoderFrame := by
  intro i hi s t h
  have hi : i = .encStart ∨ i ∈ [Instr.encG3, .encT2, .encT1] ∨ i = .encT0 := by
    simp only [List.mem_cons, List.not_mem_nil, or_false] at hi ⊢; tauto
  rcases hi with rfl | hi | rfl
  · rcases execEncStart_next h with rfl | ⟨-, -, rfl⟩
    · simp
    · exact ⟨rfl, rfl, rfl, rfl, rfl, rfl, rfl, fun _ => rfl, fun h => absurd rfl h, fun _ => ⟨rfl, rfl⟩, nofun,
        fun h => absurd rfl h, fun _ _ => rfl⟩
  · have hstart : i ≠ .encStart := by rintro rfl; exact absurd hi (by decide)
    have hend : i ≠ .encT0 := by rintro rfl; exact absurd hi (by decide)
    obtain ⟨g, c0, c1, c2, c3, x, n, r, rfl⟩ := encAction_groupDone hi h
    refine ⟨rfl, rfl, rfl, rfl, rfl, rfl, rfl, fun _ => rfl, fun _ => ⟨rfl, rfl⟩, fun h => (h.elim hstart hend).elim,
      fun h => absurd h hend, fun _ _ => ⟨rfl, rfl⟩, fun a ha => ?_⟩
    exact fourBytes_outside c0 c1 c2 c3 (encStores_groupAction s hi ▸ ha)
  · obtain ⟨-, rfl⟩ := encFinish_ok.1 (whenEncSelects_next h)
    refine ⟨rfl, rfl, rfl, rfl, rfl, rfl, rfl, fun h => absurd rfl h, fun _ => ⟨rfl, rfl⟩, fun _ => ⟨rfl, rfl⟩,
      fun _ => ⟨rfl, rfl, rfl⟩, fun _ h => absurd rfl h, fun a ha => ?_⟩
    exact Memory.get_set_other _ _ _ _ (List.ne_of_not_mem_cons ha)

end Sys2Proof.Machine
end

section
/-!
The whole `ENCODE` as rows of the encoder action map (40_encoder.md R70, R76, R77; 20_memory.md R31, R36): while bytes remain the operation is one
row of four characters and then the operation on what is left, so that its bytes and its frame follow row by row.
-/

namespace Sys2Proof.Machine

/-! ## Row by row -/

/-- The row of the bytes that remain, while there are any: a full group or the tail (R70). -/
def encRow (s : State) : Res State :=
  if 3 ≤ s.enc.rem then encGroup s else encTail s

/-- The buffers of what is still to be encoded: the bytes that remain, their text and the terminator (R31). -/
def encRest (s : State) : Views :=
  encViews s.enc.dst s.enc.src s.enc.rem

section
variable {s t u : State}

theorem encRow_group (h : 3 ≤ s.enc.rem) : encRow s = encGroup s := if_pos h

theorem encRow_tail2 (h : s.enc.rem = 2) : encRow s = encTail2 s := by simp [encRow, encTail, h]

theorem encRow_tail1 (h : s.enc.rem = 1) : encRow s = encTail1 s := by simp [encRow, encTail, h]

theorem rem_cases (h : s.enc.rem ≠ 0) : 3 ≤ s.enc.rem ∨ s.enc.rem = 2 ∨ s.enc.rem = 1 := by omega

/-- A row leaves a state of one form: up to three bytes fewer and four characters more. -/
theorem encRow_groupDone (h : s.enc.rem ≠ 0) (hu : encRow s = .ok u) :
    ∃ g c0 c1 c2 c3 x, u = groupDone s g (fourBytes s c0 c1 c2 c3) x (min s.enc.rem 3) (s.enc.rem - 3) := by
  rcases rem_cases h with hr | hr | hr
  · obtain ⟨-, -, rfl⟩ := encGroup_ok.1 (encRow_group hr ▸ hu)
    rw [Nat.min_eq_right hr]
    exact ⟨_, _, _, _, _, _, rfl⟩
  · obtain ⟨-, -, rfl⟩ := encTail2_ok.1 (encRow_tail2 hr ▸ hu)
    rw [hr]
    exact ⟨_, _, _, _, _, _, rfl⟩
  · obtain ⟨-, -, rfl⟩ := encTail1_ok.1 (encRow_tail1 hr ▸ hu)
    rw [hr]
    exact ⟨_, _, _, _, _, _, rfl⟩

theorem encRow_rem (h : s.enc.rem ≠ 0) (hu : encRow s = .ok u) : u.enc.rem = s.enc.rem - 3 := by
  obtain ⟨g, c0, c1, c2, c3, x, rfl⟩ := encRow_groupDone h hu
  rfl

theorem encRow_plat (h : s.enc.rem ≠ 0) (hu : encRow s = .ok u) : u.plat = s.plat := by
  obtain ⟨g, c0, c1, c2, c3, x, rfl⟩ := encRow_groupDone h hu
  rfl

/-- With no byte left the operation is its terminator. -/
theorem encodeWhole_zero (h : s.enc.rem = 0) : encodeWhole s = encFinish s := by
  simp [encodeWhole, encTail, encGroups, h]

/-- With bytes left the operation is a row, and then the operation on what is left (R70). -/
theorem encodeWhole_row (h : s.enc.rem ≠ 0) : encodeWhole s = .ok t ↔ ∃ u, encRow s = .ok u ∧ encodeWhole u = .ok t := by
  by_cases hr : 3 ≤ s.enc.rem
  · rw [encRow_group hr]
    refine ⟨encodeWhole_group hr, ?_⟩
    rintro ⟨u, hu, ht⟩
    obtain ⟨v, w, hv, hw, ht⟩ := encodeWhole_ok.1 ht
    have hn : s.enc.rem / 3 = u.enc.rem / 3 + 1 := by
      have hru := encRow_rem h ((encRow_group hr).trans hu)
      omega
    exact encodeWhole_ok.2 ⟨v, w, hn ▸ encGroups_succ.2 ⟨u, hu, hv⟩, hw, ht⟩
  · have hlast {u : State} (hu : encRow s = .ok u) : encodeWhole u = encFinish u :=
      encodeWhole_zero (by rw [encRow_rem h hu]; omega)
    have hrow : encRow s = encTail s := if_neg hr
    constructor
    · intro ht
      obtain ⟨u, hu, ht⟩ := encodeWhole_tail (Nat.lt_of_not_le hr) ht
      exact ⟨u, hrow ▸ hu, hlast (hrow ▸ hu) ▸ ht⟩
    · rintro ⟨u, hu, ht⟩
      exact encodeWhole_ok.2 ⟨s, u, by rw [Nat.div_eq_of_lt (Nat.lt_of_not_le hr)]; rfl, hrow ▸ hu, hlast hu ▸ ht⟩

/-! ## The buffers that remain -/

/-- The text of the bytes that remain is a row's four characters and the text of what is then left. -/
theorem encRest_dst_len {r : Nat} (h : r ≠ 0) : 4 * ((r + 2) / 3) + 1 = 4 + (4 * ((r - 3 + 2) / 3) + 1) := by omega

/-- A row's four characters end below the top of the address space: the terminator comes behind them. -/
theorem dst_add_four_lt (h : s.enc.rem ≠ 0) (hf : (encRest s).dst.fits s.plat.aw = true) : s.enc.dst + 4 < 2 ^ s.plat.aw := by
  have hf : s.enc.dst + (4 * ((s.enc.rem + 2) / 3) + 1) ≤ 2 ^ s.plat.aw := Span.fits_iff.1 hf
  omega

/-- After a row the destination that remains begins behind the four characters and ends where it ended. -/
theorem encRow_dst (h : s.enc.rem ≠ 0) (hf : (encRest s).dst.fits s.plat.aw = true) (hu : encRow s = .ok u) :
    (encRest u).dst = { lo := s.enc.dst + 4, len := 4 * ((s.enc.rem - 3 + 2) / 3) + 1 } := by
  obtain ⟨g, c0, c1, c2, c3, x, rfl⟩ := encRow_groupDone h hu
  have hd : s.addr s.enc.dst 4 = s.enc.dst + 4 := addr_of_lt (dst_add_four_lt h hf)
  rw [← hd]
  rfl

theorem encRow_dst_fits (h : s.enc.rem ≠ 0) (hf : (encRest s).dst.fits s.plat.aw = true) (hu : encRow s = .ok u) :
    (encRest u).dst.fits s.plat.aw = true := by
  rw [encRow_dst h hf hu]
  have hf : s.enc.dst + (4 * ((s.enc.rem + 2) / 3) + 1) ≤ 2 ^ s.plat.aw := Span.fits_iff.1 hf
  rw [encRest_dst_len h] at hf
  exact Span.fits_iff.2 (by dsimp only; omega)

theorem encRow_dst_holds (h : s.enc.rem ≠ 0) (hf : (encRest s).dst.fits s.plat.aw = true) (hu : encRow s = .ok u) {a : Nat}
    (ha : (encRest u).dst.Holds a) : s.enc.dst + 4 ≤ a ∧ (encRest s).dst.Holds a := by
  rw [encRow_dst h hf hu] at ha
  obtain ⟨h1, h2⟩ := ha
  dsimp only at h1 h2
  have hlen := encRest_dst_len h
  exact ⟨h1, show s.enc.dst ≤ a by omega, show a < s.enc.dst + (4 * ((s.enc.rem + 2) / 3) + 1) by omega⟩

theorem Span.outside_iff {v : Span} {a : Nat} : v.Outside a ↔ ¬v.Holds a := by
  unfold Span.Outside Span.Holds; omega

/-- A row writes its four characters and no other byte. -/
theorem encRow_mem_other (h : s.enc.rem ≠ 0) (hf : (encRest s).dst.fits s.plat.aw = true) (hu : encRow s = .ok u) {a : Nat}
    (ha : a < s.enc.dst ∨ s.enc.dst + 4 ≤ a) : u.mem.get a = s.mem.get a := by
  obtain ⟨g, c0, c1, c2, c3, x, rfl⟩ := encRow_groupDone h hu
  change (fourBytes s c0 c1 c2 c3).get a = s.mem.get a
  have hlt := dst_add_four_lt h hf
  have ne {k : Nat} (hk : k < 4) : a ≠ s.addr s.enc.dst k := by
    rw [addr_of_lt (by omega)]
    omega
  exact fourBytes_other (by omega) (ne (by decide)) (ne (by decide)) (ne (by decide))

/-- A row keeps every byte outside the buffer of the text. -/
theorem encRow_mem_outside (h : s.enc.rem ≠ 0) (hf : (encRest s).dst.fits s.plat.aw = true) (hu : encRow s = .ok u) {a : Nat}
    (ha : ¬(encRest s).dst.Holds a) : u.mem.get a = s.mem.get a := by
  refine encRow_mem_other h hf hu ?_
  by_contra hc
  exact ha ⟨show s.enc.dst ≤ a by omega, show a < s.enc.dst + (4 * ((s.enc.rem + 2) / 3) + 1) by omega⟩

/-- `ENCODE` keeps every byte outside the buffer of the text (R36). -/
theorem encodeWhole_mem_outside {r : Nat} (hr : s.enc.rem = r) (hf : (encRest s).dst.fits s.plat.aw = true)
    (ht : encodeWhole s = .ok t) {a : Nat} (ha : ¬(encRest s).dst.Holds a) : t.mem.get a = s.mem.get a := by
  induction r using Nat.strong_induction_on generalizing s with
  | _ r ih =>
    by_cases h : s.enc.rem = 0
    · rw [encodeWhole_zero h] at ht
      obtain ⟨-, rfl⟩ := encFinish_ok.1 ht
      refine Memory.get_set_other _ _ _ _ fun e => ha ?_
      exact ⟨Nat.le_of_eq e.symm, show a < s.enc.dst + (4 * ((s.enc.rem + 2) / 3) + 1) by omega⟩
    · obtain ⟨u, hu, ht⟩ := (encodeWhole_row h).1 ht
      have hru := encRow_rem h hu
      have hau : ¬(encRest u).dst.Holds a := fun hc => ha (encRow_dst_holds h hf hu hc).2
      calc t.mem.get a
          = u.mem.get a := ih u.enc.rem (by omega) rfl (encRow_plat h hu ▸ encRow_dst_fits h hf hu) ht hau
        _ = s.mem.get a := encRow_mem_outside h hf hu ha

/-! ## The text -/

/-- The text of `n` bytes has `4 * ceil(n / 3)` characters (R70). -/
theorem textOf_length (bs : List Byte) : (textOf bs).length = 4 * ((bs.length + 2) / 3) := by
  induction bs using textOf.induct with
  | case1 a b c rest ih => simp only [textOf, List.length_cons, ih]; omega
  | case2 a b => simp [textOf]
  | case3 a => simp [textOf]
  | case4 => simp [textOf]

/-- The caller's guarantees, of what is still to be encoded (70_reset_and_hazards.md R128). -/
structure Encodable (s : State) : Prop where
  wf : s.mem.wf = true
  srcFits : (encRest s).src.fits s.plat.aw = true
  dstFits : (encRest s).dst.fits s.plat.aw = true
  apart : (encRest s).src.meets (encRest s).dst = false
  admitted : (encRest s).Admitted s.plat

/-- What `ENCODE` has done with what was still to be encoded (R76, R77). -/
structure Encoded (s t : State) : Prop where
  wf : t.mem.wf = true
  text : bytesAt t.mem s.enc.dst (encRest s).dst.len = textOf (bytesAt s.mem s.enc.src s.enc.rem) ++ [NUL]
  result : encResult t = some (.ok (s.enc.dst + 4 * ((s.enc.rem + 2) / 3)))
  idle : t.enc.busy = false

/-- The bytes that remain stand at ascending addresses without a wrap. -/
theorem Encodable.src_addr (h : Encodable s) {k : Nat} (hk : k < s.enc.rem) : s.addr s.enc.src k = s.enc.src + k := by
  have hf : s.enc.src + s.enc.rem ≤ 2 ^ s.plat.aw := Span.fits_iff.1 h.srcFits
  exact addr_of_lt (by omega)

theorem Encodable.src_admitted (h : Encodable s) {k : Nat} (hk : k < s.enc.rem) :
    s.plat.admits (s.addr s.enc.src k) = true := by
  rw [h.src_addr hk]
  exact h.admitted.1 _ (Nat.le_add_right _ _) (Nat.add_lt_add_left hk _)

theorem Encodable.src_admitted_zero (h : Encodable s) (h0 : s.enc.rem ≠ 0) : s.plat.admits s.enc.src = true := by
  have h' := h.src_admitted (Nat.pos_of_ne_zero h0)
  rwa [h.src_addr (Nat.pos_of_ne_zero h0)] at h'

theorem Encodable.fourAdmitted (h : Encodable s) (h0 : s.enc.rem ≠ 0) : FourAdmitted s := by
  have hlt := dst_add_four_lt h0 h.dstFits
  have at_dst {k : Nat} (hk : k < 4) : s.plat.admits (s.enc.dst + k) = true :=
    h.admitted.2 _ (Nat.le_add_right _ _) (show s.enc.dst + k < s.enc.dst + (4 * ((s.enc.rem + 2) / 3) + 1) by omega)
  have at_addr {k : Nat} (hk : k < 4) : s.plat.admits (s.addr s.enc.dst k) = true := by
    rw [addr_of_lt (by omega)]
    exact at_dst hk
  exact ⟨at_dst (k := 0) (by decide), at_addr (by decide), at_addr (by decide), at_addr (by decide)⟩

/-- After a row the source begins behind the row's three bytes, if any byte remains. -/
theorem encRow_src (h : Encodable s) (hr : 3 < s.enc.rem) (hu : encRow s = .ok u) : u.enc.src = s.enc.src + 3 := by
  obtain ⟨g, c0, c1, c2, c3, x, rfl⟩ := encRow_groupDone (Nat.ne_zero_of_lt hr) hu
  rw [Nat.min_eq_right (Nat.le_of_lt hr)]
  exact h.src_addr hr

theorem encRow_src_holds (h : Encodable s) (h0 : s.enc.rem ≠ 0) (hu : encRow s = .ok u) {a : Nat}
    (ha : (encRest u).src.Holds a) : (encRest s).src.Holds a := by
  obtain ⟨h1, h2⟩ : u.enc.src ≤ a ∧ a < u.enc.src + u.enc.rem := ha
  rw [encRow_rem h0 hu] at h2
  have hsrc := encRow_src h (by omega) hu
  exact ⟨show s.enc.src ≤ a by omega, show a < s.enc.src + s.enc.rem by omega⟩

/-- What follows the row's bytes is still to be encoded: the row wrote none of it. -/
theorem encRow_source (h : Encodable s) (h0 : s.enc.rem ≠ 0) (hu : encRow s = .ok u) :
    bytesAt u.mem u.enc.src u.enc.rem = bytesAt s.mem (s.enc.src + 3) (s.enc.rem - 3) := by
  have keeps : bytesAt u.mem u.enc.src u.enc.rem = bytesAt s.mem u.enc.src u.enc.rem :=
    bytesAt_congr fun k hk => encRow_mem_outside h0 h.dstFits hu fun hd =>
      Span.meets_false.1 h.apart _
        ⟨encRow_src_holds h h0 hu ⟨Nat.le_add_right _ _, Nat.add_lt_add_left hk _⟩, hd⟩
  rw [keeps, encRow_rem h0 hu]
  by_cases hr : 3 < s.enc.rem
  · rw [encRow_src h hr hu]
  · rw [Nat.sub_eq_zero_of_le (Nat.le_of_not_lt hr)]
    rfl

/-- What a row leaves still satisfies the caller's guarantees. -/
theorem Encodable.next (h : Encodable s) (h0 : s.enc.rem ≠ 0) (hu : encRow s = .ok u) : Encodable u := by
  have src_holds {a : Nat} := encRow_src_holds h h0 hu (a := a)
  have dst_holds {a : Nat} (ha : (encRest u).dst.Holds a) := (encRow_dst_holds h0 h.dstFits hu ha).2
  obtain ⟨hs, hd⟩ := h.admitted
  have apart := Span.meets_false.1 h.apart
  have hdf := encRow_dst_fits h0 h.dstFits hu
  have hf : s.enc.src + s.enc.rem ≤ 2 ^ s.plat.aw := Span.fits_iff.1 h.srcFits
  obtain ⟨g, c0, c1, c2, c3, x, rfl⟩ := encRow_groupDone h0 hu
  refine ⟨fourBytes_wf c0 c1 c2 c3 h.wf, Span.fits_iff.2 (addA_add_le ?_), hdf, Span.meets_false.2 fun a ⟨h1, h2⟩ => ?_, ?_, ?_⟩
  · exact show s.enc.src + (min s.enc.rem 3 + (s.enc.rem - 3)) ≤ 2 ^ s.plat.aw by omega
  · exact apart a ⟨src_holds h1, dst_holds h2⟩
  · exact fun a h1 h2 => have ⟨h1, h2⟩ := src_holds ⟨h1, h2⟩; hs a h1 h2
  · exact fun a h1 h2 => have ⟨h1, h2⟩ := dst_holds ⟨h1, h2⟩; hd a h1 h2

/-- The four characters of a row, read back. -/
theorem fourBytes_bytesAt (hwf : s.mem.wf = true) (hf : s.enc.dst + 4 < 2 ^ s.plat.aw) (c0 c1 c2 c3 : Byte) :
    bytesAt (fourBytes s c0 c1 c2 c3) s.enc.dst 4 = [c0, c1, c2, c3] := by
  have hd {k : Nat} (hk : k < 4) : s.addr s.enc.dst k = s.enc.dst + k := addr_of_lt (by omega)
  have w1 := Memory.wf_set s.enc.dst c0 hwf
  have w2 := Memory.wf_set (s.enc.dst + 1) c1 w1
  have w3 := Memory.wf_set (s.enc.dst + 2) c2 w2
  simp [bytesAt, fourBytes, hd, Nat.add_assoc, Memory.get_set _ _ _ hwf, Memory.get_set _ _ _ w1, Memory.get_set _ _ _ w2,
    Memory.get_set _ _ _ w3]

/-- Under the caller's guarantees a row answers, and its four characters begin the text of the bytes that remain. -/
theorem Encodable.row (h : Encodable s) (h0 : s.enc.rem ≠ 0) :
    ∃ u, encRow s = .ok u ∧ textOf (bytesAt s.mem s.enc.src s.enc.rem) =
      bytesAt u.mem s.enc.dst 4 ++ textOf (bytesAt s.mem (s.enc.src + 3) (s.enc.rem - 3)) := by
  have hw := h.fourAdmitted h0
  have four := fourBytes_bytesAt h.wf (dst_add_four_lt h0 h.dstFits)
  have a0 := h.src_admitted_zero h0
  rcases rem_cases h0 with hr | hr | hr
  · have a1 : 1 < s.enc.rem := by omega
    have a2 : 2 < s.enc.rem := by omega
    obtain ⟨r, hrem⟩ := Nat.exists_eq_add_of_le' hr
    refine ⟨_, (encRow_group hr).trans (encGroup_slices ⟨a0, h.src_admitted a1, h.src_admitted a2⟩ hw), ?_⟩
    change _ = bytesAt (fourBytes s _ _ _ _) s.enc.dst 4 ++ _
    rw [four, h.src_addr a1, h.src_addr a2, hrem]
    rfl
  · have a1 : 1 < s.enc.rem := by omega
    refine ⟨_, (encRow_tail2 hr).trans (encTail2_slices ⟨a0, h.src_admitted a1⟩ hw), ?_⟩
    change _ = bytesAt (fourBytes s _ _ _ _) s.enc.dst 4 ++ _
    rw [four, h.src_addr a1, hr]
    simp [bytesAt, textOf]
  · refine ⟨_, (encRow_tail1 hr).trans (encTail1_slices a0 hw), ?_⟩
    change _ = bytesAt (fourBytes s _ _ _ _) s.enc.dst 4 ++ _
    rw [four, hr]
    simp [bytesAt, textOf]

/-- Under the caller's guarantees `ENCODE` completes and has encoded what was still to be encoded. -/
theorem Encodable.encoded {r : Nat} (h : Encodable s) (hr : s.enc.rem = r) : ∃ t, encodeWhole s = .ok t ∧ Encoded s t := by
  induction r using Nat.strong_induction_on generalizing s with
  | _ r ih =>
    by_cases h0 : s.enc.rem = 0
    · have hd : s.plat.admits s.enc.dst = true :=
        h.admitted.2 _ (Nat.le_refl _) (show s.enc.dst < s.enc.dst + (4 * ((s.enc.rem + 2) / 3) + 1) by omega)
      refine ⟨_, (encodeWhole_zero h0).trans (encFinish_ok.2 ⟨hd, rfl⟩), Memory.wf_set _ _ h.wf, ?_, ?_, rfl⟩
      · simp [encRest, encViews, h0, bytesAt, textOf, Memory.get_set_same _ _ h.wf]
      · simp [encResult, EncUnit.complete, h0]
    · obtain ⟨u, hu, htext⟩ := h.row h0
      have hru := encRow_rem h0 hu
      obtain ⟨t, ht, hwf, htail, hres, hidle⟩ := ih u.enc.rem (by omega) (h.next h0 hu) rfl
      have hdst := encRow_dst h0 h.dstFits hu
      have hlo : u.enc.dst = s.enc.dst + 4 := congrArg Span.lo hdst
      have hlen : (encRest s).dst.len = 4 + (encRest u).dst.len := by rw [hdst]; exact encRest_dst_len h0
      refine ⟨t, (encodeWhole_row h0).2 ⟨u, hu, ht⟩, hwf, ?_, ?_, hidle⟩
      · have hfour : bytesAt t.mem s.enc.dst 4 = bytesAt u.mem s.enc.dst 4 := by
          refine bytesAt_congr fun k hk => ?_
          refine encodeWhole_mem_outside rfl (h.next h0 hu).dstFits ht fun hd => ?_
          have := (encRow_dst_holds h0 h.dstFits hu hd).1
          omega
        rw [hlen, bytesAt_add, ← hlo, htail, hfour, htext, encRow_source h h0 hu, List.append_assoc]
      · rw [hres, hlo, hru]
        congr 2
        omega

end

/-- Settles O40: the command is latched, and what is latched satisfies the guarantees of what is still to be encoded. -/
theorem encodeWritesTheText : Obligations.EncodeWritesTheText := by
  rintro s hb hwf ⟨⟨hfs, hfd, hm, hu⟩, hadm⟩
  have hlen : (textOf (bytesAt s.mem s.io.encSrc s.io.encSize)).length = 4 * ((s.io.encSize + 2) / 3) := by
    rw [textOf_length, bytesAt_length]
  have hready : Encodable (encLatch s) := ⟨hwf, hfs, hfd, hm, hadm⟩
  obtain ⟨t, ht, hwf', htext, hres, hidle⟩ := hready.encoded rfl
  have hnext : exec .encode s = .next t := execEncode_ok.2 (.inr ⟨hb, ⟨hfs, hfd, hm, hu⟩, ht⟩)
  obtain ⟨hplat, hdec, hio, hrlut, hreq, hscript, hfree⟩ := execEncode_keeps hnext
  refine ⟨t, hnext, hlen, ?_, ?_, hidle, hwf', fun a ha => ?_, hdec, hio, hplat, hreq, hscript, hfree, hrlut⟩
  · rw [hlen]
    exact htext
  · rw [hlen]
    exact hres
  · exact encodeWhole_mem_outside rfl hready.dstFits ht (Span.outside_iff.1 ha)

end Sys2Proof.Machine
end

section
/-!
What the whole operations leave alone (40_encoder.md R70; 41_decoder.md R85; 20_memory.md R36, R37): for `DECODE`, a terminator ahead of the group
that the operation does not overwrite bounds how many groups go on, and so what they write.
-/

namespace Sys2Proof.Machine

section
variable {s t : State} {k : Nat} {b : Bool}

/-! ## The terminator ahead -/

/-- The buffers of what is still to be decoded, a terminator being `k` characters ahead (R31). -/
def decRest (s : State) (k : Nat) : Views :=
  decViews s.dec.dst s.dec.src k

/-- A terminator stands `k` characters ahead, outside the buffer for the bytes of those characters, and neither runs past the top. -/
structure EndsAhead (s : State) (k : Nat) : Prop where
  srcFits : s.dec.src + k < 2 ^ s.plat.aw
  dstFits : (decRest s k).dst.fits s.plat.aw = true
  nul : s.mem.get (s.dec.src + k) = NUL
  apart : ¬(decRest s k).dst.Holds (s.dec.src + k)

/-- The terminator is not a data character. -/
theorem charAt_nul (hlt : s.dec.src + k < 2 ^ s.plat.aw) (hn : s.mem.get (s.dec.src + k) = NUL) : charAt s k = .notB64 := by
  rw [charAt, addr_of_lt hlt, hn]
  rfl

/-- A group that begins with two data characters begins at least two characters before the terminator. -/
theorem EndsAhead.two_le (h : EndsAhead s k) {va vb : Sextet} (hb : BeginsWith s va vb) : 2 ≤ k := by
  obtain ⟨-, h0, -, h1, -⟩ := hb
  have hend := charAt_nul h.srcFits h.nul
  by_contra hk
  obtain rfl | rfl : k = 0 ∨ k = 1 := by omega
  · exact nomatch h0.symm.trans hend
  · exact nomatch h1.symm.trans hend

/-- Before the terminator there is room for the bytes of a whole group. -/
theorem EndsAhead.dst_add_three_le (h : EndsAhead s k) (hk : k ≠ 0) : s.dec.dst + 3 ≤ 2 ^ s.plat.aw := by
  have hf : s.dec.dst + 3 * ((k + 3) / 4) ≤ 2 ^ s.plat.aw := Span.fits_iff.1 h.dstFits
  omega

theorem decRest_holds {a : Nat} (hk : k ≠ 0) (h1 : s.dec.dst ≤ a) (h2 : a < s.dec.dst + 3) : (decRest s k).dst.Holds a :=
  ⟨h1, show a < s.dec.dst + 3 * ((k + 3) / 4) by omega⟩

/-- Byte 1 does not overwrite the terminator. -/
theorem EndsAhead.nul_after_byte1 (h : EndsAhead s k) (hk : k ≠ 0) (va vb : Sextet) :
    (twoDone s va vb).mem.get (s.dec.src + k) = NUL := by
  rw [twoDone_mem, Memory.get_set_other _ _ _ _ fun e => h.apart (decRest_holds hk (by omega) (by omega)), h.nul]

/-- A group of four data characters ends before the terminator. -/
theorem EndsAhead.four_le (h : EndsAhead s k) (hf : decFull s = .ok t) : 4 ≤ k := by
  obtain ⟨va, vb, vc, vd, ⟨hb, -, h2⟩, -, h3, -, -, -⟩ := decFull_ok.1 hf
  have hk := h.two_le hb
  have hend : charAt (twoDone s va vb) k = .notB64 := charAt_nul h.srcFits (h.nul_after_byte1 (by omega) va vb)
  by_contra hk'
  obtain rfl | rfl : k = 2 ∨ k = 3 := by omega
  · exact nomatch h2.symm.trans hend
  · exact nomatch h3.symm.trans hend

/-! ## One pass -/

/-- At most the three bytes of a group at `D.dst` differ. -/
def WritesAtMostGroup (s : State) (m : Memory) : Prop :=
  ∀ a, a ≠ s.dec.dst → a ≠ s.addr s.dec.dst 1 → a ≠ s.addr (s.addr s.dec.dst 1) 1 → m.get a = s.mem.get a

theorem byte1_only (s : State) (va vb : Sextet) : WritesAtMostGroup s (twoDone s va vb).mem :=
  fun _ h0 _ _ => Memory.get_set_other _ _ _ _ h0

theorem bytes12_only (s : State) (va vb : Sextet) (v : Byte) :
    WritesAtMostGroup s ((twoDone s va vb).mem.set (s.addr s.dec.dst 1) v) := by
  intro a h0 h1 h2
  rw [Memory.get_set_other _ _ _ _ h1, byte1_only s va vb a h0 h1 h2]

theorem bytes123_only (s : State) (va vb : Sextet) (v w : Byte) :
    WritesAtMostGroup s (((twoDone s va vb).mem.set (s.addr s.dec.dst 1) v).set (s.addr (s.addr s.dec.dst 1) 1) w) := by
  intro a h0 h1 h2
  rw [Memory.get_set_other _ _ _ _ h2, bytes12_only s va vb v a h0 h1 h2]

/-- A pass writes nothing, or begins with two data characters and writes at most the three bytes of a group. -/
theorem GroupPass.mem_cases (h : GroupPass s t b) :
    t.mem = s.mem ∨ (∃ va vb, BeginsWith s va vb) ∧ WritesAtMostGroup s t.mem := by
  have one {u : State} {va vb : Sextet} (hb : BeginsWith s va vb) (e : u.mem = (twoDone s va vb).mem) :
      u.mem = s.mem ∨ (∃ va vb, BeginsWith s va vb) ∧ WritesAtMostGroup s u.mem :=
    .inr ⟨⟨va, vb, hb⟩, e ▸ byte1_only s va vb⟩
  cases h with
  | end0 h => obtain ⟨-, -, rfl⟩ := decEnd0_ok.1 h; exact .inl rfl
  | failB h => obtain ⟨_, -, -, -, -, rfl⟩ := decFailB_ok.1 h; exact .inl rfl
  | failC h => obtain ⟨va, vb, hb, -, -, rfl⟩ := decFailC_ok.1 h; exact one hb rfl
  | failD h => obtain ⟨va, vb, vc, ⟨hb, -, -⟩, -, -, rfl⟩ := decFailD_ok.1 h; exact one hb rfl
  | failDP h => obtain ⟨va, vb, ⟨hb, -, -⟩, -, -, rfl⟩ := decFailDP_ok.1 h; exact one hb rfl
  | failPD h => obtain ⟨va, vb, ⟨hb, -, -⟩, -, -, rfl⟩ := decFailPD_ok.1 h; exact one hb rfl
  | end1 h => obtain ⟨va, vb, ⟨hb, -, -⟩, -, -, rfl⟩ := decEnd1_ok.1 h; exact one hb rfl
  | end2 h =>
    obtain ⟨va, vb, vc, ⟨hb, -, -⟩, -, -, -, rfl⟩ := decEnd2_ok.1 h
    exact .inr ⟨⟨va, vb, hb⟩, bytes12_only s va vb _⟩
  | full h =>
    obtain ⟨va, vb, vc, vd, ⟨hb, -, -⟩, -, -, -, -, rfl⟩ := decFull_ok.1 h
    exact .inr ⟨⟨va, vb, hb⟩, bytes123_only s va vb _ _⟩

/-- A pass keeps every byte outside the buffer of the bytes still to come. -/
theorem EndsAhead.pass_mem (h : EndsAhead s k) (hp : GroupPass s t b) {a : Nat} (ha : ¬(decRest s k).dst.Holds a) :
    t.mem.get a = s.mem.get a := by
  rcases hp.mem_cases with e | ⟨⟨va, vb, hb⟩, hm⟩
  · rw [e]
  · have hk : k ≠ 0 := Nat.ne_zero_of_lt (h.two_le hb)
    have hf := h.dst_add_three_le hk
    have ne {j : Nat} (hj : j < 3) : a ≠ s.dec.dst + j := fun e => ha (decRest_holds hk (by omega) (by omega))
    have h1 : s.addr s.dec.dst 1 = s.dec.dst + 1 := addr_of_lt (by omega)
    have h2 : s.addr (s.dec.dst + 1) 1 = s.dec.dst + 2 := addr_of_lt (by omega)
    rw [WritesAtMostGroup, h1, h2] at hm
    exact hm a (ne (j := 0) (by decide)) (ne (by decide)) (ne (by decide))

/-- After a full group the buffer of the bytes still to come is what is left of it. -/
theorem EndsAhead.full_dst (h : EndsAhead s k) (hf : decFull s = .ok t) :
    (decRest t (k - 4)).dst.fits s.plat.aw = true ∧ ∀ a, (decRest t (k - 4)).dst.Holds a → (decRest s k).dst.Holds a := by
  have hk := h.four_le hf
  have hfit : s.dec.dst + 3 * ((k + 3) / 4) ≤ 2 ^ s.plat.aw := Span.fits_iff.1 h.dstFits
  have hdst : t.dec.dst = addA s.plat.aw s.dec.dst 3 := by
    obtain ⟨va, vb, vc, vd, -, -, -, -, -, rfl⟩ := decFull_ok.1 hf
    change addA s.plat.aw (addA s.plat.aw (addA s.plat.aw s.dec.dst 1) 1) 1 = _
    rw [addA_addA, addA_addA]
  have hlen : 3 * ((k + 3) / 4) = 3 + 3 * ((k - 4 + 3) / 4) := by omega
  rw [hlen] at hfit
  refine ⟨Span.fits_iff.2 ?_, ?_⟩
  · change t.dec.dst + 3 * ((k - 4 + 3) / 4) ≤ _
    rw [hdst]
    exact addA_add_le hfit
  · rintro a ⟨h1, h2⟩
    change t.dec.dst ≤ a at h1
    change a < t.dec.dst + 3 * ((k - 4 + 3) / 4) at h2
    have hnowrap : t.dec.dst = s.dec.dst + 3 := by rw [hdst]; exact addr_of_lt (by omega)
    exact ⟨show s.dec.dst ≤ a by omega, show a < s.dec.dst + 3 * ((k + 3) / 4) by omega⟩

/-- After a full group the terminator is four characters nearer. -/
theorem EndsAhead.full (h : EndsAhead s k) (hf : decFull s = .ok t) : EndsAhead t (k - 4) := by
  have hk := h.four_le hf
  have hlt := h.srcFits
  obtain ⟨hfits, hholds⟩ := h.full_dst hf
  have hnul : t.mem.get (s.dec.src + k) = NUL := (h.pass_mem (.full hf) h.apart).trans h.nul
  have hplat : t.plat = s.plat := (GroupPass.full hf).keeps.plat
  have hsrc : t.dec.src + (k - 4) = s.dec.src + k := by
    have hsrc : t.dec.src = s.addr s.dec.src 4 := by
      obtain ⟨va, vb, vc, vd, -, -, -, -, -, rfl⟩ := decFull_ok.1 hf
      rfl
    rw [hsrc, addr_of_lt (by omega)]
    omega
  exact ⟨by rw [hsrc, hplat]; exact hlt, by rw [hplat]; exact hfits, by rw [hsrc]; exact hnul,
    fun hc => h.apart (hsrc ▸ hholds _ hc)⟩

/-! ## The loop -/

/-- The loop of R85 keeps every byte outside the buffer of the bytes still to come (R37). -/
theorem decodeLoop_mem_outside {n : Nat} (h : EndsAhead s k) (ht : decodeLoop n s = .ok t) {a : Nat}
    (ha : ¬(decRest s k).dst.Holds a) : t.mem.get a = s.mem.get a := by
  induction n generalizing s k with
  | zero => exact nomatch ht
  | succ n ih =>
    rcases decodeLoop_succ.1 ht with hp | ⟨u, hp, ht⟩
    · exact h.pass_mem hp ha
    · have hf : decFull s = .ok u := match hp with | .full h => h
      calc t.mem.get a
          = u.mem.get a := ih (h.full hf) ht fun hc => ha ((h.full_dst hf).2 a hc)
        _ = s.mem.get a := h.pass_mem hp ha

/-- A command for a terminated string that the contract allows has the terminator ahead, outside the destination. -/
theorem decLatch_endsAhead (hn : strLen s s.io.decSrc = some k)
    (ha : (decViews s.io.decDest s.io.decSrc k).Allowed s (encRunning s)) : EndsAhead (decLatch s) k := by
  obtain ⟨hfs, hfd, hm, -⟩ := ha
  obtain ⟨-, hnul, -⟩ := strLen_some.1 hn
  have hfs : s.io.decSrc + (k + 1) ≤ 2 ^ s.plat.aw := Span.fits_iff.1 hfs
  rw [addr_of_lt (by omega)] at hnul
  refine ⟨show s.io.decSrc + k < 2 ^ s.plat.aw by omega, hfd, hnul, fun hd => ?_⟩
  exact Span.meets_false.1 hm (s.io.decSrc + k) ⟨⟨Nat.le_add_right _ _, Nat.lt_succ_self _⟩, hd⟩

/-! ## Both operations -/

theorem execEncode_mem_outside (h : execEncode s = .next t) {a : Nat}
    (ha : (encViews s.io.encDest s.io.encSrc s.io.encSize).dst.Outside a) : t.mem.get a = s.mem.get a := by
  rcases execEncode_ok.1 h with ⟨-, rfl⟩ | ⟨-, ⟨-, hfd, -, -⟩, ht⟩
  · rfl
  · exact encodeWhole_mem_outside (s := encLatch s) rfl hfd ht (Span.outside_iff.1 ha)

theorem execDecode_mem_outside (h : execDecode s = .next t) (hk : strLen s s.io.decSrc = some k) {a : Nat}
    (ha : (decViews s.io.decDest s.io.decSrc k).dst.Outside a) : t.mem.get a = s.mem.get a := by
  rcases execDecode_ok.1 h with ⟨-, rfl⟩ | ⟨-, n, hn, hv, ht⟩
  · rfl
  · obtain rfl : n = k := Option.some.inj (hn.symm.trans hk)
    exact decodeLoop_mem_outside (decLatch_endsAhead hn hv) ht (Span.outside_iff.1 ha)

end

/-- Settles O48: each operation keeps what its unit does not own, and writes inside its destination only. -/
theorem commandFrame : Obligations.CommandFrame := by
  refine fun s t => ⟨fun h => ?_, fun h => ?_⟩
  · obtain ⟨hplat, hdec, hio, hrlut, hreq, hscript, hfree⟩ := execEncode_keeps h
    exact ⟨hdec, hio, hplat, hrlut, hreq, hscript, hfree, fun a ha => execEncode_mem_outside h ha⟩
  · obtain ⟨hplat, henc, hio, halpha, hreq, hscript, hfree⟩ := execDecode_keeps h
    exact ⟨henc, hio, hplat, halpha, hreq, hscript, hfree, fun n hn a ha => execDecode_mem_outside h hn ha⟩

end Sys2Proof.Machine
end

section
/-!
The decoder's rows at the step level (41_decoder.md R86 to R99): the shifter as a run of sextets, the state each sub-operation and each group
action leaves.
-/

namespace Sys2Proof.Machine

/-! ## The shifter -/

/-- The shifter after one more sextet, by shift and or (R88). -/
theorem shiftIn_eq_or (sh : Group) (v : Sextet) : shiftIn sh v = (sh <<< 6) ||| v.zeroExtend 24 := by
  refine BitVec.eq_of_getLsbD_eq fun i hi => ?_
  simp only [shiftIn_bit, BitVec.getLsbD_or, BitVec.getLsbD_shiftLeft, BitVec.getLsbD_setWidth]
  grind

/-- Two sextets after the 12 low bits of the old shifter. -/
theorem shiftIn_two (sh : Group) (va vb : Sextet) : shiftIn (shiftIn sh va) vb = sh.extractLsb' 0 12 ++ va ++ vb := by
  refine BitVec.eq_of_getLsbD_eq fun i hi => ?_
  change _ = (sh.extractLsb' 0 12 ++ va ++ vb : BitVec (12 + 6 + 6)).getLsbD i
  simp only [shiftIn_bit, BitVec.getLsbD_append, BitVec.getLsbD_extractLsb']
  grind

/-- One more sextet moves the two before it up, and the old shifter's low bits with them. -/
theorem shiftIn_three (sh : Group) (va vb vc : Sextet) :
    shiftIn (sh.extractLsb' 0 12 ++ va ++ vb) vc = sh.extractLsb' 0 6 ++ va ++ vb ++ vc := by
  rw [← shiftIn_two]
  refine BitVec.eq_of_getLsbD_eq fun i hi => ?_
  change _ = (sh.extractLsb' 0 6 ++ va ++ vb ++ vc : BitVec (6 + 6 + 6 + 6)).getLsbD i
  simp only [shiftIn_bit, BitVec.getLsbD_append, BitVec.getLsbD_extractLsb']
  grind

/-- Four sextets leave nothing of the old shifter. -/
theorem shiftIn_four (sh : Group) (va vb vc vd : Sextet) :
    shiftIn (sh.extractLsb' 0 6 ++ va ++ vb ++ vc) vd = va ++ vb ++ vc ++ vd := by
  rw [← shiftIn_three, ← shiftIn_two]
  refine BitVec.eq_of_getLsbD_eq fun i hi => ?_
  change _ = (va ++ vb ++ vc ++ vd : BitVec (6 + 6 + 6 + 6)).getLsbD i
  simp only [shiftIn_bit, BitVec.getLsbD_append]
  grind

theorem byte1_two (sh : Group) (va vb : Sextet) : byte1 (sh.extractLsb' 0 12 ++ va ++ vb) = pack1 va vb := by
  rw [← shiftIn_two]
  exact (byteAssembly sh va vb 0 0).1

theorem byte2_three (sh : Group) (va vb vc : Sextet) : byte2 (sh.extractLsb' 0 6 ++ va ++ vb ++ vc) = pack2 vb vc := by
  rw [← shiftIn_three, ← shiftIn_two]
  exact (byteAssembly sh va vb vc 0).2.1

theorem byte3_four (va vb vc vd : Sextet) : byte3 (va ++ vb ++ vc ++ vd) = pack3 vc vd := by
  rw [← shiftIn_four 0, ← shiftIn_three, ← shiftIn_two]
  exact (byteAssembly 0 va vb vc vd).2.2

/-! ## The sub-operations -/

/-- Settles O24: a shift and an or put the sextet where the concatenation does. -/
theorem decShiftShiftsIn : Obligations.DecShiftShiftsIn := by
  intro s v
  rw [← shiftIn_eq_or]
  rfl

/-- Settles O25: each slice of the shifter is a shift of it, cut to eight bits. -/
theorem decEmitsWriteOneByte : Obligations.DecEmitsWriteOneByte := by
  intro s h
  have slice (k : Nat) : s.dec.sh.extractLsb' k 8 = (s.dec.sh >>> k).truncate 8 := by
    ext i hi
    simp
  rw [← slice 4, ← slice 2]
  exact ⟨answer_eq_next.2 (emit1_ok.2 ⟨h, rfl⟩), answer_eq_next.2 (emit2_ok.2 ⟨h, rfl⟩)⟩

/-- Settles O23: `D.k` is the row's index, and counting it on modulo 4 is adding one. -/
theorem decFetchClassifies : Obligations.DecFetchClassifies := by
  rintro s k rfl h
  have hk : s.dec.k + 1#2 = BitVec.ofNat 2 (s.dec.k.toNat + 1) := by rw [BitVec.ofNat_add, BitVec.ofNat_toNat, BitVec.setWidth_eq]
  simp only [exec, execDecFetch, if_pos, fetch_admitted h, answer_ok, hk]
  rfl

/-! ## Accepting a command -/

/-- Without a command, or with a busy decoder, `DEC.START` changes nothing (R86). -/
theorem execDecStart_ignored {s : State} (h : s.dec.busy = true ∨ s.io.decStart = false) : execDecStart s = .next s := by
  rcases h with h | h <;> simp [execDecStart, h]

/-- Next to an idle encoder a string with no terminator is accepted (70_reset_and_hazards.md R133). -/
theorem execDecStart_unterminated {s : State} (hs : s.io.decStart = true) (hb : s.dec.busy = false)
    (hn : strLen s s.io.decSrc = none) (he : s.enc.busy = false) : execDecStart s = .next (decLatch s) := by
  have hfree : (encRunning s).any (fun w => (everything s.plat.aw).conflict w) = false := by simp [encRunning, he]
  simp [execDecStart, hs, hb, (decAccept_none hn).2 ⟨hfree, rfl⟩]

/-- Settles O22: an accepted command is latched with its buffers, and nothing else has an effect. -/
theorem decStartAccepts : Obligations.DecStartAccepts := by
  refine fun s => ⟨fun n hs hb hn ha => ?_, fun hs hb hn he => ?_, fun h => execDecStart_ignored (.inl h),
    fun h => execDecStart_ignored (.inr h)⟩
  · rw [← decCommandViews_some hn]
    exact execDecStart_allowed hs hb hn ha
  · rw [← decCommandViews_none hn]
    exact execDecStart_unterminated hs hb hn he

/-! ## The states of a group -/

section
variable {s : State} {va vb vc vd : Sextet}

theorem twoDone_eq (s : State) (va vb : Sextet) :
    twoDone s va vb = { s with
      dec := { s.dec with k := 2#2, sh := s.dec.sh.extractLsb' 0 12 ++ va ++ vb, dst := s.addr s.dec.dst 1 }
      mem := memAfterByte1 s va vb
      rlutOut := .data vb } := by
  rw [memAfterByte1, ← byte1_two s.dec.sh, ← shiftIn_two]
  rfl

theorem threeDone_eq (s : State) (va vb vc : Sextet) :
    threeDone s va vb vc = { s with
      dec := { s.dec with
        k := 3#2, cpad := false, sh := s.dec.sh.extractLsb' 0 6 ++ va ++ vb ++ vc, dst := s.addr s.dec.dst 1 }
      mem := memAfterByte1 s va vb
      rlutOut := .data vc } := by
  rw [threeDone, twoDone_eq, ← shiftIn_three]
  rfl

/-- Three data characters and padding, after byte 2. -/
theorem byte2Done_eq (s : State) (va vb vc : Sextet) :
    byte2Done (fetched 3 .pad (threeDone s va vb vc)) = { s with
      dec := { s.dec with
        k := 0#2, cpad := false, sh := s.dec.sh.extractLsb' 0 6 ++ va ++ vb ++ vc, dst := s.addr (s.addr s.dec.dst 1) 1 }
      mem := (memAfterByte1 s va vb).set (s.addr s.dec.dst 1) (pack2 vb vc)
      rlutOut := .pad } := by
  rw [threeDone_eq, ← byte2_three s.dec.sh va]
  rfl

/-- Four data characters, after byte 3 and the advance. -/
theorem byte3Done_eq (s : State) (va vb vc vd : Sextet) :
    byte3Done (shift vd (byte2Done (fetched 3 (.data vd) (threeDone s va vb vc)))) = { s with
      dec := { s.dec with
        src := s.addr s.dec.src 4, k := 0#2, cpad := false, sh := va ++ vb ++ vc ++ vd
        dst := s.addr (s.addr (s.addr s.dec.dst 1) 1) 1 }
      mem := ((memAfterByte1 s va vb).set (s.addr s.dec.dst 1) (pack2 vb vc)).set (s.addr (s.addr s.dec.dst 1) 1) (pack3 vc vd)
      rlutOut := .data vd } := by
  rw [threeDone_eq, ← byte3_four va vb, ← byte2_three s.dec.sh va, ← shiftIn_four s.dec.sh va vb vc vd]
  rfl

/-- A later character is one that the state after byte 1 holds. -/
theorem laterChar_twoDone {k : Nat} {x : CharClass} :
    LaterChar s va vb k x ↔ CharAdmitted (twoDone s va vb) k ∧ charAt (twoDone s va vb) k = x := by
  rw [twoDone_eq]
  rfl

theorem TwoData.beginsWithThree (h : TwoData s va vb) (h2 : LaterChar s va vb 2 (.data vc)) : BeginsWithThree s va vb vc :=
  ⟨h, laterChar_twoDone.1 h2⟩

theorem TwoData.beginsWithTwoPad (h : TwoData s va vb) (h2 : LaterChar s va vb 2 .pad) : BeginsWithTwoPad s va vb :=
  ⟨h, laterChar_twoDone.1 h2⟩

/-- In a busy decoder between two groups, a group action answers what its body answers (30_encoding.md R63). -/
theorem decAction_next {t : State} {body : State → Res State} (hb : s.dec.busy = true) (hp : s.dec.phase = .read1)
    (h : body s = .ok t) : answer (whenDecBusy s body) = .next t :=
  answer_eq_next.2 (whenDecBusy_ok.2 ⟨hb, hp, h⟩)

end

/-! ## The nine group actions -/

/-- Settles O26: the body is one fetch and the end of the operation. -/
theorem decEnd0Finishes : Obligations.DecEnd0Finishes := by
  intro s hb hp h0 hx
  exact ⟨_, decAction_next hb hp (decEnd0_ok.2 ⟨h0, hx, rfl⟩)⟩

/-- Settles O27: one sextet is shifted in before the character that fails. -/
theorem decFailBFails : Obligations.DecFailBFails := by
  intro s va hb hp h0 hva h1 hx
  exact ⟨_, decAction_next hb hp (decFailB_ok.2 ⟨va, h0, hva, h1, hx, rfl⟩)⟩

/-- Settles O28: the state after byte 1, failed at the third character. -/
theorem decFailCFails : Obligations.DecFailCFails := by
  intro s va vb hb hp h hc
  obtain ⟨a2, hc⟩ := laterChar_twoDone.1 hc
  exact ⟨_, decAction_next hb hp (decFailC_ok.2 ⟨va, vb, h, a2, hc, by rw [twoDone_eq]; rfl⟩)⟩

/-- Settles O29: the state after three data characters, failed at the fourth. -/
theorem decFailDFails : Obligations.DecFailDFails := by
  intro s va vb vc hb hp h h2 h3
  obtain ⟨a3, hd⟩ := laterChar_twoDone.1 h3
  exact ⟨_, decAction_next hb hp
    (decFailD_ok.2 ⟨va, vb, vc, h.beginsWithThree h2, a3, hd, by rw [threeDone_eq]; rfl⟩)⟩

/-- Settles O30: the state after byte 1 and the padding, failed at the fourth character. -/
theorem decFailDPFails : Obligations.DecFailDPFails := by
  intro s va vb hb hp h h2 h3
  obtain ⟨a3, hd⟩ := laterChar_twoDone.1 h3
  exact ⟨_, decAction_next hb hp
    (decFailDP_ok.2 ⟨va, vb, h.beginsWithTwoPad h2, a3, isNotB64_iff.2 hd, by rw [twoDone_eq]; rfl⟩)⟩

/-- Settles O31: the same state, failed at a fourth character that is data. -/
theorem decFailPDFails : Obligations.DecFailPDFails := by
  intro s va vb vd hb hp h h2 h3
  obtain ⟨a3, hd⟩ := laterChar_twoDone.1 h3
  exact ⟨_, decAction_next hb hp
    (decFailPD_ok.2 ⟨va, vb, h.beginsWithTwoPad h2, a3, isData_iff.2 ⟨vd, hd⟩, by rw [twoDone_eq]; rfl⟩)⟩

/-- Settles O32: the same state, the operation ended by a second padding character. -/
theorem decEnd1Finishes : Obligations.DecEnd1Finishes := by
  intro s va vb hb hp h h2 h3
  obtain ⟨a3, hd⟩ := laterChar_twoDone.1 h3
  exact ⟨_, decAction_next hb hp
    (decEnd1_ok.2 ⟨va, vb, h.beginsWithTwoPad h2, a3, isPad_iff.2 hd, by rw [twoDone_eq]; rfl⟩)⟩

/-- Settles O33: the state after three data characters, then byte 2 and the end of the operation. -/
theorem decEnd2Finishes : Obligations.DecEnd2Finishes := by
  intro s va vb vc hb hp h h2 h3 hw
  obtain ⟨a3, hd⟩ := laterChar_twoDone.1 h3
  exact ⟨_, decAction_next hb hp
    (decEnd2_ok.2 ⟨va, vb, vc, h.beginsWithThree h2, a3, hd, hw, by rw [byte2Done_eq]; rfl⟩)⟩

/-- Settles O34: the state after three data characters, then byte 2, the fourth sextet, byte 3 and the advance. -/
theorem decFullDecodesAGroup : Obligations.DecFullDecodesAGroup := by
  intro s va vb vc vd hb hp h h2 h3 hw hw'
  obtain ⟨a3, hd⟩ := laterChar_twoDone.1 h3
  exact ⟨_, decAction_next hb hp
    (decFull_ok.2 ⟨va, vb, vc, vd, h.beginsWithThree h2, a3, hd, hw, hw', by rw [byte3Done_eq]; rfl⟩)⟩

end Sys2Proof.Machine
end

section
/-!
The nine group actions in one state (41_decoder.md R106; 30_encoding.md R63): a beginning whose character has another class is refused, and
with it every action that begins so; what is left is the one action that the fetched classes select.
-/

namespace Sys2Proof.Machine

/-- The nine group actions (30_encoding.md R63). -/
abbrev decActions : List Instr :=
  [.decEnd0, .decFailB, .decFailC, .decFailD, .decFailDP, .decFailPD, .decEnd1, .decEnd2, .decFull]

/-- The body of a group action. -/
def decBody (s : State) : Instr → Res State
  | .decEnd0 => decEnd0 s
  | .decFailB => decFailB s
  | .decFailC => decFailC s
  | .decFailD => decFailD s
  | .decFailDP => decFailDP s
  | .decFailPD => decFailPD s
  | .decEnd1 => decEnd1 s
  | .decEnd2 => decEnd2 s
  | .decFull => decFull s
  | _ => refuse .notSelected

/-- In a busy decoder between two groups, a group action answers what its body answers. -/
theorem exec_decAction {s : State} (hb : s.dec.busy = true) (hp : s.dec.phase = .read1) :
    ∀ j ∈ decActions, exec j s = answer (decBody s j) := by
  have runs (body : State → Res State) : answer (whenDecBusy s body) = answer (body s) := by rw [whenDecBusy_busy body hb hp]
  simp only [List.forall_mem_cons]
  exact ⟨runs decEnd0, runs decFailB, runs decFailC, runs decFailD, runs decFailDP, runs decFailPD, runs decEnd1, runs decEnd2,
    runs decFull, nofun⟩

/-- The group's characters select the action: it stops at an unadmitted address only, and the other eight are refused. -/
structure Selects (s : State) (i : Instr) : Prop where
  runs : StopsOnly ∅ s.plat (decBody s i)
  others : ∀ j ∈ decActions, j ≠ i → decBody s j = refuse .notSelected

/-- What answers stops nowhere. -/
theorem StopsOnly.of_ok {others : Set Stop} {p : Platform} {α : Type} {r : Res α} {x : α} (h : r = .ok x) : StopsOnly others p r :=
  h ▸ .ok

theorem StopsOnly.not_refused {p : Platform} {x : Res State} (h : StopsOnly ∅ p x) (r : Refusal) : answer x ≠ .refused r := by
  cases x with
  | ok t => exact nofun
  | error e =>
    rcases h e rfl with ⟨a, -, rfl⟩ | he
    · exact nofun
    · exact absurd he (Set.notMem_empty e)

/-- What follows a refused operation is not done. -/
theorem refused_bind {α β : Type} {x : Res α} {r : Refusal} (h : x = refuse r) (f : α → Res β) : (x >>= f) = refuse r := by
  rw [h, refuse_bind]

section
variable {s : State} {va vb vc : Sextet}

/-! ## The first two characters -/

theorem fetchData_eq {k : Nat} {v : Sextet} (ha : CharAdmitted s k) (hv : charAt s k = .data v) :
    fetchData k s = .ok (shift v (fetched k (.data v) s)) :=
  fetchData_ok.2 ⟨ha, v, hv, rfl⟩

theorem decEnd0_refused (ha : CharAdmitted s 0) (hx : isData (charAt s 0) = true) : decEnd0 s = refuse .notSelected :=
  refused_bind (fetchThat_refused ha (by rw [hx]; rfl)) _

theorem decFailB_refused (ha : CharAdmitted s 0) (hva : charAt s 0 = .data va) (ha' : CharAdmitted s 1)
    (hx : isData (charAt s 1) = true) : decFailB s = refuse .notSelected := by
  rw [decFailB, fetchData_eq ha hva, ok_bind]
  exact refused_bind (fetchThat_refused (s := shift va (fetched 0 (.data va) s)) ha' (congrArg not hx)) _

theorem decTwo_refused (ha : CharAdmitted s 0) (hva : charAt s 0 = .data va) (ha' : CharAdmitted s 1)
    (hx : isData (charAt s 1) = false) : decTwo s = refuse .notSelected := by
  rw [decTwo, fetchData_eq ha hva, ok_bind]
  exact refused_bind (fetchData_refused (s := shift va (fetched 0 (.data va) s)) ha' hx) _

/-- Without two data characters the seven actions that begin with them are refused. -/
theorem begin_refused (h : decTwo s = refuse .notSelected) :
    ∀ j ∈ [Instr.decFailC, .decFailD, .decFailDP, .decFailPD, .decEnd1, .decEnd2, .decFull], decBody s j = refuse .notSelected := by
  have three : decThree s = refuse .notSelected := refused_bind h _
  have twoPad : decTwoPad s = refuse .notSelected := refused_bind h _
  simp only [List.forall_mem_cons]
  exact ⟨refused_bind h _, refused_bind three _, refused_bind twoPad _, refused_bind twoPad _, refused_bind twoPad _,
    refused_bind three _, refused_bind three _, nofun⟩

theorem selects_end0 (ha : CharAdmitted s 0) (hx : isData (charAt s 0) = false) : Selects s .decEnd0 := by
  have hdata := fetchData_refused ha hx
  have hB : decFailB s = refuse .notSelected := refused_bind hdata _
  have hrest := begin_refused (refused_bind hdata _)
  refine ⟨.of_ok (decEnd0_ok.2 ⟨ha, hx, rfl⟩), ?_⟩
  exact List.forall_mem_cons.2 ⟨fun h => absurd rfl h, List.forall_mem_cons.2 ⟨fun _ => hB, fun j hj _ => hrest j hj⟩⟩

theorem selects_failB (ha : CharAdmitted s 0) (hva : charAt s 0 = .data va) (ha' : CharAdmitted s 1)
    (hx : isData (charAt s 1) = false) : Selects s .decFailB := by
  have h0 : decEnd0 s = refuse .notSelected := decEnd0_refused ha (by rw [hva]; rfl)
  have hrest := begin_refused (decTwo_refused ha hva ha' hx)
  refine ⟨.of_ok (decFailB_ok.2 ⟨va, ha, hva, ha', hx, rfl⟩), ?_⟩
  exact List.forall_mem_cons.2 ⟨fun _ => h0, List.forall_mem_cons.2 ⟨fun h => absurd rfl h, fun j hj _ => hrest j hj⟩⟩

/-- After two data characters the two actions that end before are refused. -/
theorem BeginsWith.ends_refused (h : BeginsWith s va vb) :
    decEnd0 s = refuse .notSelected ∧ decFailB s = refuse .notSelected := by
  obtain ⟨a0, h0, a1, h1, -⟩ := h
  exact ⟨decEnd0_refused a0 (by rw [h0]; rfl), decFailB_refused a0 h0 a1 (by rw [h1]; rfl)⟩

/-! ## The third character -/

theorem decFailC_refused (h : BeginsWith s va vb) (ha : CharAdmitted (twoDone s va vb) 2)
    (hx : isNotB64 (charAt (twoDone s va vb) 2) = false) : decFailC s = refuse .notSelected := by
  rw [decFailC, decTwo_begins h, ok_bind]
  exact refused_bind (fetchThat_refused ha hx) _

/-- Without a third data character the three actions that begin with three are refused. -/
theorem three_refused (h : BeginsWith s va vb) (ha : CharAdmitted (twoDone s va vb) 2)
    (hx : isData (charAt (twoDone s va vb) 2) = false) :
    decFailD s = refuse .notSelected ∧ decEnd2 s = refuse .notSelected ∧ decFull s = refuse .notSelected := by
  have three : decThree s = refuse .notSelected := by rw [decThree, decTwo_begins h, ok_bind, fetchData_refused ha hx]
  exact ⟨refused_bind three _, refused_bind three _, refused_bind three _⟩

/-- Without padding in the third place the three actions that begin with it are refused. -/
theorem twoPad_refused (h : BeginsWith s va vb) (ha : CharAdmitted (twoDone s va vb) 2)
    (hx : isPad (charAt (twoDone s va vb) 2) = false) :
    decFailDP s = refuse .notSelected ∧ decFailPD s = refuse .notSelected ∧ decEnd1 s = refuse .notSelected := by
  have twoPad : decTwoPad s = refuse .notSelected := by rw [decTwoPad, decTwo_begins h, ok_bind, fetchThat_refused ha hx]
  exact ⟨refused_bind twoPad _, refused_bind twoPad _, refused_bind twoPad _⟩

theorem selects_failC (h : BeginsWith s va vb) (ha : CharAdmitted (twoDone s va vb) 2)
    (hx : charAt (twoDone s va vb) 2 = .notB64) : Selects s .decFailC := by
  obtain ⟨h0, hB⟩ := h.ends_refused
  obtain ⟨hD, h2, hF⟩ := three_refused h ha (by rw [hx]; rfl)
  obtain ⟨hDP, hPD, h1⟩ := twoPad_refused h ha (by rw [hx]; rfl)
  exact ⟨.of_ok (decFailC_ok.2 ⟨va, vb, h, ha, hx, rfl⟩), by simp [decBody, h0, hB, hD, h2, hF, hDP, hPD, h1]⟩

/-! ## The fourth character -/

/-- After two data characters and padding, an action that tests the fourth character is refused where the test fails. -/
theorem afterTwoPad_refused {p : CharClass → Bool} (h : BeginsWithTwoPad s va vb) (ha : CharAdmitted (twoDone s va vb) 3)
    (hx : p (charAt (twoDone s va vb) 3) = false) (f : State → Res State) :
    (do
      let s ← decTwoPad s
      let s ← fetchThat 3 p s
      f s : Res State) = refuse .notSelected := by
  rw [decTwoPad_iff.2 ⟨va, vb, h, rfl⟩, ok_bind]
  exact refused_bind (fetchThat_refused (s := fetched 2 .pad (twoDone s va vb)) ha hx) f

/-- After three data characters the same. -/
theorem afterThree_refused {p : CharClass → Bool} (h : BeginsWithThree s va vb vc) (ha : CharAdmitted (twoDone s va vb) 3)
    (hx : p (charAt (twoDone s va vb) 3) = false) (f : State → Res State) :
    (do
      let s ← decThree s
      let s ← fetchThat 3 p s
      f s : Res State) = refuse .notSelected := by
  rw [decThree_iff.2 ⟨va, vb, vc, h, rfl⟩, ok_bind]
  exact refused_bind (fetchThat_refused (s := threeDone s va vb vc) ha hx) f

theorem decFull_refused (h : BeginsWithThree s va vb vc) (ha : CharAdmitted (twoDone s va vb) 3)
    (hx : isData (charAt (twoDone s va vb) 3) = false) : decFull s = refuse .notSelected := by
  rw [decFull, decThree_iff.2 ⟨va, vb, vc, h, rfl⟩, ok_bind, fetch_eq (s := threeDone s va vb vc) (k := 3) ha, ok_bind,
    fetched_rlutOut]
  change isData (charAt (threeDone s va vb vc) 3) = false at hx
  cases hd : charAt (threeDone s va vb vc) 3 with
  | data v => rw [hd] at hx; exact absurd hx (by simp [isData])
  | pad => rfl
  | notB64 => rfl

/-- The action of a group that begins with two data characters and padding, by the class of the fourth (R63). -/
def padAction : CharClass → Instr
  | .data _ => .decFailPD
  | .pad => .decEnd1
  | .notB64 => .decFailDP

/-- The action of a group that begins with three data characters, by the class of the fourth (R63). -/
def dataAction : CharClass → Instr
  | .data _ => .decFull
  | .pad => .decEnd2
  | .notB64 => .decFailD

theorem BeginsWithTwoPad.selects (h : BeginsWithTwoPad s va vb) (ha : CharAdmitted (twoDone s va vb) 3) :
    Selects s (padAction (charAt (twoDone s va vb) 3)) := by
  have ⟨hb, a2, h2⟩ := h
  obtain ⟨h0, hB⟩ := hb.ends_refused
  have hC := decFailC_refused hb a2 (by rw [h2]; rfl)
  obtain ⟨hD, hEnd2, hF⟩ := three_refused hb a2 (by rw [h2]; rfl)
  have hDP hx : decFailDP s = refuse .notSelected := afterTwoPad_refused h ha hx _
  have hPD hx : decFailPD s = refuse .notSelected := afterTwoPad_refused h ha hx _
  have hEnd1 hx : decEnd1 s = refuse .notSelected := afterTwoPad_refused h ha hx _
  cases hd : charAt (twoDone s va vb) 3 with
  | data vd =>
    rw [hd] at hDP hEnd1
    exact ⟨.of_ok (decFailPD_ok.2 ⟨va, vb, h, ha, isData_iff.2 ⟨vd, hd⟩, rfl⟩),
      by simp [decBody, padAction, h0, hB, hC, hD, hEnd2, hF, hDP rfl, hEnd1 rfl]⟩
  | pad =>
    rw [hd] at hDP hPD
    exact ⟨.of_ok (decEnd1_ok.2 ⟨va, vb, h, ha, isPad_iff.2 hd, rfl⟩),
      by simp [decBody, padAction, h0, hB, hC, hD, hEnd2, hF, hDP rfl, hPD rfl]⟩
  | notB64 =>
    rw [hd] at hPD hEnd1
    exact ⟨.of_ok (decFailDP_ok.2 ⟨va, vb, h, ha, isNotB64_iff.2 hd, rfl⟩),
      by simp [decBody, padAction, h0, hB, hC, hD, hEnd2, hF, hPD rfl, hEnd1 rfl]⟩

theorem lastBytes_stopsOnly (vd : Sextet) (u : State) :
    StopsOnly ∅ u.plat (do
      let s ← emit2 u
      decByte3 (shift vd s)) :=
  .emit (.emit .ok rfl) rfl

/-- A full group, or one ended by padding, stops only where its last bytes have no memory to go to. -/
theorem BeginsWithThree.end2_stopsOnly (h : BeginsWithThree s va vb vc) (ha : CharAdmitted (twoDone s va vb) 3)
    (hd : charAt (twoDone s va vb) 3 = .pad) : StopsOnly ∅ s.plat (decEnd2 s) := by
  have hf : fetchThat 3 isPad (threeDone s va vb vc) = .ok _ := fetchThat_ok.2 ⟨ha, isPad_iff.2 hd, rfl⟩
  rw [decEnd2, decThree_iff.2 ⟨va, vb, vc, h, rfl⟩, ok_bind, hf, ok_bind]
  exact .emit .ok rfl

theorem BeginsWithThree.full_stopsOnly (h : BeginsWithThree s va vb vc) {vd : Sextet} (ha : CharAdmitted (twoDone s va vb) 3)
    (hd : charAt (twoDone s va vb) 3 = .data vd) : StopsOnly ∅ s.plat (decFull s) := by
  have hd : charAt (threeDone s va vb vc) 3 = .data vd := hd
  rw [decFull, decThree_iff.2 ⟨va, vb, vc, h, rfl⟩, ok_bind, fetch_eq (s := threeDone s va vb vc) (k := 3) ha, ok_bind,
    fetched_rlutOut, hd]
  exact lastBytes_stopsOnly vd _

theorem BeginsWithThree.selects (h : BeginsWithThree s va vb vc) (ha : CharAdmitted (twoDone s va vb) 3) :
    Selects s (dataAction (charAt (twoDone s va vb) 3)) := by
  have ⟨hb, a2, h2⟩ := h
  obtain ⟨h0, hB⟩ := hb.ends_refused
  have hC := decFailC_refused hb a2 (by rw [h2]; rfl)
  obtain ⟨hDP, hPD, hEnd1⟩ := twoPad_refused hb a2 (by rw [h2]; rfl)
  have hD hx : decFailD s = refuse .notSelected := afterThree_refused h ha hx _
  have hEnd2 hx : decEnd2 s = refuse .notSelected := afterThree_refused h ha hx _
  have hF hx : decFull s = refuse .notSelected := decFull_refused h ha hx
  cases hd : charAt (twoDone s va vb) 3 with
  | data vd =>
    rw [hd] at hD hEnd2
    exact ⟨h.full_stopsOnly ha hd, by simp [decBody, dataAction, h0, hB, hC, hDP, hPD, hEnd1, hD rfl, hEnd2 rfl]⟩
  | pad =>
    rw [hd] at hD hF
    exact ⟨h.end2_stopsOnly ha hd, by simp [decBody, dataAction, h0, hB, hC, hDP, hPD, hEnd1, hD rfl, hF rfl]⟩
  | notB64 =>
    rw [hd] at hEnd2 hF
    exact ⟨.of_ok (decFailD_ok.2 ⟨va, vb, vc, h, ha, hd, rfl⟩),
      by simp [decBody, dataAction, h0, hB, hC, hDP, hPD, hEnd1, hEnd2 rfl, hF rfl]⟩

/-! ## The selector's word -/

theorem padAction_word (va vb : Sextet) (y : CharClass) :
    decodeDecAct (decActWord (classCode (.data va)) (classCode (.data vb)) (classCode .pad) (classCode y)) = .ok (padAction y) := by
  simp only [classCode_data]
  cases y with
  | data v => rw [classCode_data]; rfl
  | pad => rfl
  | notB64 => rfl

theorem dataAction_word (va vb vc : Sextet) (y : CharClass) :
    decodeDecAct (decActWord (classCode (.data va)) (classCode (.data vb)) (classCode (.data vc)) (classCode y)) =
      .ok (dataAction y) := by
  simp only [classCode_data]
  cases y with
  | data v => rw [classCode_data]; rfl
  | pad => rfl
  | notB64 => rfl

theorem padAction_mem (y : CharClass) : padAction y ∈ decActions := by cases y <;> simp [padAction]

theorem dataAction_mem (y : CharClass) : dataAction y ∈ decActions := by cases y <;> simp [dataAction]

/-- The word of a group whose characters can be fetched names the action that they select (R63). -/
theorem GroupShape.selects {w : Byte} (h : GroupShape s w) : ∃ i ∈ decActions, decodeDecAct w = .ok i ∧ Selects s i := by
  cases h with
  | first x ha hx hn =>
    subst hx
    exact ⟨.decEnd0, by simp, decodeDecAct_first _ _ _ _ (by rw [classCode_msb, hn]; rfl), selects_end0 ha hn⟩
  | second va x ha hva ha' hx hn =>
    subst hx
    rw [classCode_data]
    exact ⟨.decFailB, by simp, decodeDecAct_second _ _ _ (by rw [classCode_msb, hn]; rfl), selects_failB ha hva ha' hn⟩
  | third va vb hb ha hx =>
    simp only [classCode_data]
    exact ⟨.decFailC, by simp, decodeDecAct_third _, selects_failC hb ha hx⟩
  | fourth va vb x y hb ha hx hn ha' hy =>
    subst hy
    cases x with
    | data vc => exact ⟨_, dataAction_mem _, dataAction_word va vb vc _, BeginsWithThree.selects ⟨hb, ha, hx⟩ ha'⟩
    | pad => exact ⟨_, padAction_mem _, padAction_word va vb _, BeginsWithTwoPad.selects ⟨hb, ha, hx⟩ ha'⟩
    | notB64 => exact absurd hn (by decide)

end

/-- Settles O36: the word is of one of four shapes, and each shape's characters select the action that the word names. -/
theorem oneDecoderActionEnabled : Obligations.OneDecoderActionEnabled := by
  intro s w hb hp hw
  have run := exec_decAction hb hp
  obtain ⟨i, hi, hd, hruns, hothers⟩ := (decGroupWord_ok hw).selects
  exact ⟨i, hi, hd, fun r => run i hi ▸ hruns.not_refused r, fun j hj hne => by rw [run j hj, hothers j hj hne, answer_refuse]⟩

end Sys2Proof.Machine
end

section
/-!
What the decoder's rows leave alone (41_decoder.md R86 to R99; 10_state.md R16, R18, R21; 20_memory.md R37): the six group actions that end after
byte 1 all keep the same, and each other row writes what its rule names.
-/

namespace Sys2Proof.Machine

section
variable {s t : State}

/-- The six group actions that write byte 1 and end the operation. -/
abbrev lateActions : List Instr := [.decFailC, .decFailD, .decFailDP, .decFailPD, .decEnd1, .decEnd2]

/-- The six are passes that end the operation, and store at the addresses listed for them. -/
theorem lateAction_next {i : Instr} (hi : i ∈ lateActions) (h : exec i s = .next t) :
    GroupPass s t false ∧ ∀ a, a ∉ decStores i s → t.mem.get a = s.mem.get a := by
  have byte1 {v : Byte} (a : Nat) (ha : a ∉ [s.dec.dst]) : (s.mem.set s.dec.dst v).get a = s.mem.get a :=
    Memory.get_set_other _ _ _ _ (List.ne_of_not_mem_cons ha)
  simp only [List.mem_cons, List.not_mem_nil, or_false] at hi
  rcases hi with rfl | rfl | rfl | rfl | rfl | rfl <;> have hb := (whenDecBusy_next h).2.2
  · obtain ⟨_, _, -, -, -, rfl⟩ := decFailC_ok.1 hb
    exact ⟨.failC hb, byte1⟩
  · obtain ⟨_, _, _, -, -, -, rfl⟩ := decFailD_ok.1 hb
    exact ⟨.failD hb, byte1⟩
  · obtain ⟨_, _, -, -, -, rfl⟩ := decFailDP_ok.1 hb
    exact ⟨.failDP hb, byte1⟩
  · obtain ⟨_, _, -, -, -, rfl⟩ := decFailPD_ok.1 hb
    exact ⟨.failPD hb, byte1⟩
  · obtain ⟨_, _, -, -, -, rfl⟩ := decEnd1_ok.1 hb
    exact ⟨.end1 hb, byte1⟩
  · obtain ⟨_, _, _, -, -, -, -, rfl⟩ := decEnd2_ok.1 hb
    refine ⟨.end2 hb, fun a ha => ?_⟩
    exact (Memory.get_set_other _ _ _ _ (List.ne_of_not_mem_cons (List.not_mem_of_not_mem_cons ha))).trans
      (Memory.get_set_other _ _ _ _ (List.ne_of_not_mem_cons ha))

theorem lateAction_other {i : Instr} (hi : i ∈ lateActions) (k : Nat) (v : Sextet) :
    i ∉ [Instr.decStart, .decEnd0, .decFailB, .decFull, .decFetch k, .decShift v, .decEmit1, .decEmit2] := by
  simp only [List.mem_cons, List.not_mem_nil, or_false] at hi
  rcases hi with rfl | rfl | rfl | rfl | rfl | rfl <;> simp

/-- Only a full group moves `D.src`. -/
theorem GroupPass.keeps_src (h : GroupPass s t false) : t.dec.src = s.dec.src := by
  cases h with
  | end0 h => obtain ⟨-, -, rfl⟩ := decEnd0_ok.1 h; rfl
  | failB h => obtain ⟨_, -, -, -, -, rfl⟩ := decFailB_ok.1 h; rfl
  | failC h => obtain ⟨_, _, -, -, -, rfl⟩ := decFailC_ok.1 h; rfl
  | failD h => obtain ⟨_, _, _, -, -, -, rfl⟩ := decFailD_ok.1 h; rfl
  | failDP h => obtain ⟨_, _, -, -, -, rfl⟩ := decFailDP_ok.1 h; rfl
  | failPD h => obtain ⟨_, _, -, -, -, rfl⟩ := decFailPD_ok.1 h; rfl
  | end1 h => obtain ⟨_, _, -, -, -, rfl⟩ := decEnd1_ok.1 h; rfl
  | end2 h => obtain ⟨_, _, _, -, -, -, -, rfl⟩ := decEnd2_ok.1 h; rfl

/-- A full group leaves the flags and the end pointer alone. -/
theorem decFull_keeps_control (h : decFull s = .ok t) :
    t.dec.busy = s.dec.busy ∧ t.dec.done = s.dec.done ∧ t.dec.fail = s.dec.fail ∧ t.dec.endAddr = s.dec.endAddr := by
  obtain ⟨_, _, _, _, -, -, -, -, -, rfl⟩ := decFull_ok.1 h
  exact ⟨rfl, rfl, rfl, rfl⟩

theorem decFull_mem (h : decFull s = .ok t) (a : Nat) (ha : a ∉ decStores .decFull s) : t.mem.get a = s.mem.get a := by
  simp only [decStores, List.mem_cons, List.not_mem_nil, or_false, not_or] at ha
  obtain ⟨h0, h1, h2⟩ := ha
  rcases (GroupPass.full h).mem_cases with e | ⟨-, hm⟩
  · rw [e]
  · exact hm a h0 h1 h2

end

/-- Settles O35: the six late actions together, and each of the other rows by the state that it leaves. -/
theorem decoderFrame : Obligations.DecoderFrame := by
  intro k v i hi s t h
  have hi : i = .decStart ∨ i = .decEnd0 ∨ i = .decFailB ∨ i ∈ lateActions ∨ i = .decFull ∨ i = .decFetch k ∨
      i = .decShift v ∨ i = .decEmit1 ∨ i = .decEmit2 := by
    simp only [List.mem_cons, List.not_mem_nil, or_false] at hi ⊢; tauto
  rcases hi with rfl | rfl | rfl | hi | rfl | rfl | rfl | rfl | rfl
  · rcases execDecStart_next h with rfl | ⟨-, rfl⟩
    · simp
    · simp [decLatch, DecUnit.accept]
  · obtain ⟨-, -, rfl⟩ := decEnd0_ok.1 (whenDecBusy_next h).2.2
    simp [finishOk, DecUnit.finishOk]
  · obtain ⟨_, -, -, -, -, rfl⟩ := decFailB_ok.1 (whenDecBusy_next h).2.2
    simp [raiseMalformed, DecUnit.malformed]
  · obtain ⟨hg, hmem⟩ := lateAction_next hi h
    obtain ⟨hplat, henc, hio, halpha, hreq, hscript, hfree⟩ := hg.keeps
    have hother := lateAction_other hi k v
    simp only [List.mem_cons, List.not_mem_nil, or_false, not_or] at hother
    refine ⟨henc, hio, hplat, halpha, hreq, hscript, hfree, fun _ => hg.keeps_place, fun _ _ => hg.keeps_src, ?_, ?_, ?_, ?_, ?_,
      ?_, hmem⟩ <;> simp [hother]
  · have hf := (whenDecBusy_next h).2.2
    obtain ⟨hplat, henc, hio, halpha, hreq, hscript, hfree⟩ := (GroupPass.full hf).keeps
    exact ⟨henc, hio, hplat, halpha, hreq, hscript, hfree, fun _ => (GroupPass.full hf).keeps_place, fun _ h => absurd rfl h,
      fun _ => decFull_keeps_control hf, by simp, nofun, by simp, by simp, by simp, decFull_mem hf⟩
  · obtain ⟨-, rfl⟩ := fetch_ok.1 (execDecFetch_next h).2
    simp
  · obtain rfl : shift v s = t := Host.Outcome.next.inj h
    simp
  · obtain ⟨-, rfl⟩ := emit1_ok.1 (answer_eq_next.1 h)
    simp +contextual [decStores, Memory.get_set_other]
  · obtain ⟨-, rfl⟩ := emit2_ok.1 (answer_eq_next.1 h)
    simp +contextual [decStores, Memory.get_set_other]

end Sys2Proof.Machine
end

section
/-!
The whole `DECODE` (41_decoder.md R85, R100, R101, R107; 70_reset_and_hazards.md R129): what a text's next group means is read off its first four
characters, a pass does what they mean, and the loop what the whole text means; with memory behind both buffers the loop ends.
-/

namespace Sys2Proof.Machine

/-! ## Bytes written in a row -/

section
variable {aw a : Nat} {m : Memory} {bs : List Byte}

theorem addA_zero_of_lt (ha : a < 2 ^ aw) : addA aw a 0 = a := Nat.mod_eq_of_lt ha

theorem Memory.setAll_cons (aw : Nat) (m : Memory) (a : Nat) (v : Byte) (bs : List Byte) :
    Memory.setAll aw m a (v :: bs) = Memory.setAll aw (m.set a v) (addA aw a 1) bs := rfl

theorem Memory.setAll_append (m : Memory) (bs cs : List Byte) (ha : a < 2 ^ aw) :
    Memory.setAll aw m a (bs ++ cs) = Memory.setAll aw (Memory.setAll aw m a bs) (addA aw a bs.length) cs := by
  induction bs generalizing m a with
  | nil => rw [List.length_nil, addA_zero_of_lt ha]; rfl
  | cons v bs ih =>
    rw [List.cons_append, Memory.setAll_cons, Memory.setAll_cons, ih _ (addA_lt aw a 1), addA_addA, Nat.add_comm 1, List.length_cons]

/-- Behind the first byte of a run that fits, the rest of the run fits. -/
theorem addA_one_cases {n : Nat} (hf : a + (n + 1) ≤ 2 ^ aw) : n = 0 ∨ addA aw a 1 = a + 1 := by
  rcases Nat.eq_zero_or_pos n with h | h
  · exact .inl h
  · exact .inr (Nat.mod_eq_of_lt (by omega))

theorem Memory.get_setAll_outside {b : Nat} (hf : a + bs.length ≤ 2 ^ aw) (hb : b < a ∨ a + bs.length ≤ b) :
    (Memory.setAll aw m a bs).get b = m.get b := by
  induction bs generalizing m a with
  | nil => rfl
  | cons v bs ih =>
    rw [List.length_cons] at hf hb
    have hset : (m.set a v).get b = m.get b := Memory.get_set_other _ _ _ _ (by omega)
    rw [Memory.setAll_cons]
    rcases addA_one_cases hf with h | h
    · rw [List.length_eq_zero_iff.1 h, ← hset]; rfl
    · rw [h, ih (by omega) (by omega), hset]

theorem bytesAt_setAll (hwf : m.wf = true) (hf : a + bs.length ≤ 2 ^ aw) :
    bytesAt (Memory.setAll aw m a bs) a bs.length = bs := by
  induction bs generalizing m a with
  | nil => rfl
  | cons v bs ih =>
    rw [List.length_cons] at hf ⊢
    have hwf' := Memory.wf_set a v hwf
    rw [Memory.setAll_cons, bytesAt]
    rcases addA_one_cases hf with h | h
    · rw [List.length_eq_zero_iff.1 h]
      exact congrArg (· :: []) (Memory.get_set_same a v hwf)
    · rw [h, ih hwf' (by omega), Memory.get_setAll_outside (by omega) (by omega), Memory.get_set_same a v hwf]

end

/-! ## A text's next group -/

/-- The class of a character of the text, which its terminator follows. -/
def textClass (cs : List Byte) (j : Nat) : CharClass :=
  classify (cs.getD j NUL)

/-- What the first four characters of a text mean. -/
def firstGroup (cs : List Byte) : List Byte × GroupEnd :=
  groupOf (textClass cs 0) (textClass cs 1) (textClass cs 2) (textClass cs 3)

theorem groupOf_first {a : CharClass} (b c d : CharClass) (h : isData a = false) : groupOf a b c d = ([], .ok) := by
  cases a with
  | data v => exact nomatch h
  | pad => rfl
  | notB64 => rfl

theorem groupOf_second (va : Sextet) {b : CharClass} (c d : CharClass) (h : isData b = false) :
    groupOf (.data va) b c d = ([], .fail) := by
  cases b with
  | data v => exact nomatch h
  | pad => rfl
  | notB64 => rfl

theorem groupOf_third (va vb : Sextet) (d : CharClass) : groupOf (.data va) (.data vb) .notB64 d = ([pack1 va vb], .fail) := by
  cases d <;> rfl

/-- Only four data characters let the text go on. -/
theorem groupOf_goesOn {a b c d : CharClass} (h : (groupOf a b c d).2 = .goesOn) :
    isData d = true ∧ (groupOf a b c d).1.length = 3 := by
  unfold groupOf at h ⊢
  split at h
  case h_1 => exact ⟨rfl, rfl⟩
  all_goals exact nomatch h

theorem groupOf_notB64 (a b c : CharClass) : (groupOf a b c .notB64).2 ≠ .goesOn :=
  fun h => nomatch (groupOf_goesOn h).1

theorem groupOf_length (a b c d : CharClass) : (groupOf a b c d).1.length ≤ 3 := by
  unfold groupOf
  split <;> simp

/-- The meaning of a text is that of its first group and, where that goes on, of what follows it (R85). -/
theorem bytesOf_eq (cs : List Byte) :
    bytesOf cs =
      if (firstGroup cs).2 = .goesOn then ((firstGroup cs).1 ++ (bytesOf (cs.drop 4)).1, (bytesOf (cs.drop 4)).2)
      else ((firstGroup cs).1, (firstGroup cs).2 == .ok) := by
  have short {a b c : CharClass} (x y : List Byte × Bool) :
      y = if (groupOf a b c .notB64).2 = .goesOn then x else y := (if_neg (groupOf_notB64 a b c)).symm
  match cs with
  | [] => exact short _ _
  | [a] => exact short _ _
  | [a, b] => exact short _ _
  | [a, b, c] => exact short _ _
  | a :: b :: c :: d :: rest =>
    have hg : firstGroup (a :: b :: c :: d :: rest) = groupOf (classify a) (classify b) (classify c) (classify d) := rfl
    rw [hg, bytesOf]
    generalize groupOf (classify a) (classify b) (classify c) (classify d) = g
    obtain ⟨bs, e⟩ := g
    cases e <;> rfl

/-- A text of `n` characters means at most `3 * ceil(n / 4)` bytes (R100). -/
theorem bytesOf_length (cs : List Byte) : (bytesOf cs).1.length ≤ 3 * ((cs.length + 3) / 4) := by
  induction h : cs.length using Nat.strong_induction_on generalizing cs with
  | _ n ih =>
    cases cs with
    | nil => simp [bytesOf]
    | cons c cs =>
      have hg : (firstGroup (c :: cs)).1.length ≤ 3 := groupOf_length _ _ _ _
      rw [List.length_cons] at h
      rw [bytesOf_eq]
      split
      · have hrest := ih ((c :: cs).drop 4).length (by rw [List.length_drop, List.length_cons]; omega) _ rfl
        rw [List.length_drop, List.length_cons] at hrest
        rw [List.length_append]
        omega
      · dsimp only
        omega

/-! ## One pass -/

section
variable {s t : State} {k n : Nat} {b : Bool} {va vb vc : Sextet}

/-- The caller's guarantees, of what is still to be decoded: the terminator `k` characters ahead, and no character of the text in the
buffer for its bytes (70_reset_and_hazards.md R129). -/
structure Decodable (s : State) (k : Nat) : Prop extends EndsAhead s k where
  wf : s.mem.wf = true
  dstLt : s.dec.dst < 2 ^ s.plat.aw
  textApart : ∀ j < k, ¬(decRest s k).dst.Holds (s.dec.src + j)

/-- The text that is still to be decoded. -/
def decText (s : State) (k : Nat) : List Byte :=
  bytesAt s.mem s.dec.src k

theorem EndsAhead.src_addr (h : EndsAhead s k) {j : Nat} (hj : j ≤ k) : s.addr s.dec.src j = s.dec.src + j :=
  addr_of_lt (Nat.lt_of_le_of_lt (Nat.add_le_add_left hj _) h.srcFits)

/-- Up to its terminator the text is what the decoder fetches. -/
theorem EndsAhead.textClass_eq (h : EndsAhead s k) {j : Nat} (hj : j ≤ k) : textClass (decText s k) j = charAt s j := by
  rw [textClass, decText, List.getD_eq_getElem?_getD, bytesAt_getElem?, charAt, h.src_addr hj]
  split
  · rfl
  · obtain rfl : j = k := by omega
    rw [h.nul]
    rfl

/-- A character that is data or padding stands before the terminator. -/
theorem EndsAhead.lt_of_charAt (h : EndsAhead s k) {j : Nat} (hj : j ≤ k) (hx : charAt s j ≠ .notB64) : j < k := by
  refine Nat.lt_of_le_of_ne hj fun e => hx ?_
  subst e
  exact charAt_nul h.srcFits h.nul

/-- Byte 1 does not overwrite the text. -/
theorem Decodable.charAt_twoDone (h : Decodable s k) (hb : BeginsWith s va vb) {j : Nat} (hj : j ≤ k) :
    charAt (twoDone s va vb) j = charAt s j := by
  have hk : k ≠ 0 := Nat.ne_zero_of_lt (h.two_le hb)
  have hne : s.dec.src + j ≠ s.dec.dst := by
    intro e
    have hd : (decRest s k).dst.Holds (s.dec.src + j) := decRest_holds hk (by omega) (by omega)
    rcases Nat.lt_or_eq_of_le hj with hj | rfl
    · exact h.textApart j hj hd
    · exact h.apart hd
  change classify ((twoDone s va vb).mem.get (s.addr s.dec.src j)) = classify (s.mem.get (s.addr s.dec.src j))
  rw [h.src_addr hj, twoDone_mem, Memory.get_set_other _ _ _ _ hne]

/-- A pass does what a group means: its bytes at `D.dst`, and the result where it ends the operation. -/
structure PassDoes (s t : State) (b : Bool) (g : List Byte × GroupEnd) : Prop where
  goes : b = true ↔ g.2 = .goesOn
  mem : t.mem = Memory.setAll s.plat.aw s.mem s.dec.dst g.1
  ended : b = false →
    decResult t = some (if g.2 = .ok then .ok (s.addr s.dec.dst g.1.length) else .fail) ∧ t.dec.busy = false

theorem PassDoes.fail {u : State} {bs : List Byte} (hm : u.mem = Memory.setAll s.plat.aw s.mem s.dec.dst bs) :
    PassDoes s (raiseMalformed u) false (bs, .fail) :=
  ⟨by simp, hm, fun _ => ⟨rfl, rfl⟩⟩

theorem PassDoes.ok {u : State} {bs : List Byte} (hm : u.mem = Memory.setAll s.plat.aw s.mem s.dec.dst bs)
    (hd : u.dec.dst = s.addr s.dec.dst bs.length) : PassDoes s (finishOk u) false (bs, .ok) :=
  ⟨by simp, hm, fun _ => ⟨congrArg (fun a => some (OpResult.ok a)) hd, rfl⟩⟩

theorem twoDone_mem_eq (s : State) (va vb : Sextet) :
    (twoDone s va vb).mem = Memory.setAll s.plat.aw s.mem s.dec.dst [pack1 va vb] := by
  rw [twoDone_eq]
  rfl

/-- A group that begins with two data characters: the third is fetched after byte 1. -/
theorem Decodable.firstGroup_eq (h : Decodable s k) (hb : BeginsWith s va vb) :
    firstGroup (decText s k) = groupOf (.data va) (.data vb) (charAt (twoDone s va vb) 2) (textClass (decText s k) 3) := by
  have hk := h.two_le hb
  have ⟨_, h0, _, h1, _⟩ := hb
  rw [firstGroup, h.textClass_eq (Nat.zero_le k), h0, h.textClass_eq (by omega), h1, h.textClass_eq hk, h.charAt_twoDone hb hk]

/-- Where the third is not the end of the text, the fourth is fetched too. -/
theorem Decodable.textClass_three (h : Decodable s k) (hb : BeginsWith s va vb) (hc : charAt (twoDone s va vb) 2 ≠ .notB64) :
    textClass (decText s k) 3 = charAt (twoDone s va vb) 3 := by
  have hk := h.two_le hb
  have hk' : 2 < k := h.lt_of_charAt hk (h.charAt_twoDone hb hk ▸ hc)
  rw [h.textClass_eq hk', h.charAt_twoDone hb hk']

/-- A group that begins with two data characters and padding. -/
theorem Decodable.firstGroup_pad (h : Decodable s k) (hp : BeginsWithTwoPad s va vb) :
    firstGroup (decText s k) = groupOf (.data va) (.data vb) .pad (charAt (twoDone s va vb) 3) := by
  obtain ⟨hb, -, hc⟩ := hp
  rw [h.firstGroup_eq hb, h.textClass_three hb (by simp [hc]), hc]

/-- A group that begins with three data characters. -/
theorem Decodable.firstGroup_data (h : Decodable s k) (hp : BeginsWithThree s va vb vc) :
    firstGroup (decText s k) = groupOf (.data va) (.data vb) (.data vc) (charAt (twoDone s va vb) 3) := by
  obtain ⟨hb, -, hc⟩ := hp
  rw [h.firstGroup_eq hb, h.textClass_three hb (by simp [hc]), hc]

/-- A pass does what the first four characters of the text mean (R63, R85). -/
theorem Decodable.pass (h : Decodable s k) (hp : GroupPass s t b) : PassDoes s t b (firstGroup (decText s k)) := by
  have first := h.textClass_eq (Nat.zero_le k)
  cases hp with
  | end0 ht =>
    obtain ⟨-, hx, rfl⟩ := decEnd0_ok.1 ht
    rw [firstGroup, groupOf_first _ _ _ (first ▸ hx)]
    exact .ok rfl (addA_zero_of_lt h.dstLt).symm
  | failB ht =>
    obtain ⟨va, -, h0, -, hx, rfl⟩ := decFailB_ok.1 ht
    have hk : 0 < k := h.lt_of_charAt (Nat.zero_le k) (by simp [h0])
    rw [firstGroup, first, h0, groupOf_second _ _ _ (h.textClass_eq hk ▸ hx)]
    exact .fail rfl
  | failC ht =>
    obtain ⟨va, vb, hb, -, hc, rfl⟩ := decFailC_ok.1 ht
    rw [h.firstGroup_eq hb, hc, groupOf_third]
    exact .fail (twoDone_mem_eq s va vb)
  | failD ht =>
    obtain ⟨va, vb, vc, hb, -, hd, rfl⟩ := decFailD_ok.1 ht
    rw [h.firstGroup_data hb, show charAt (twoDone s va vb) 3 = .notB64 from hd]
    exact .fail (twoDone_mem_eq s va vb)
  | failDP ht =>
    obtain ⟨va, vb, hb, -, hd, rfl⟩ := decFailDP_ok.1 ht
    rw [h.firstGroup_pad hb, show charAt (twoDone s va vb) 3 = .notB64 from isNotB64_iff.1 hd]
    exact .fail (twoDone_mem_eq s va vb)
  | failPD ht =>
    obtain ⟨va, vb, hb, -, hd, rfl⟩ := decFailPD_ok.1 ht
    obtain ⟨vd, hd⟩ := isData_iff.1 hd
    rw [h.firstGroup_pad hb, show charAt (twoDone s va vb) 3 = .data vd from hd]
    exact .fail (twoDone_mem_eq s va vb)
  | end1 ht =>
    obtain ⟨va, vb, hb, -, hd, rfl⟩ := decEnd1_ok.1 ht
    rw [h.firstGroup_pad hb, show charAt (twoDone s va vb) 3 = .pad from isPad_iff.1 hd]
    exact .ok (twoDone_mem_eq s va vb) rfl
  | end2 ht =>
    obtain ⟨va, vb, vc, hb, -, hd, -, rfl⟩ := decEnd2_ok.1 ht
    rw [h.firstGroup_data hb, show charAt (twoDone s va vb) 3 = .pad from hd, byte2Done_eq]
    exact .ok rfl (addA_addA _ _ 1 1)
  | full ht =>
    obtain ⟨va, vb, vc, vd, hb, -, hd, -, -, rfl⟩ := decFull_ok.1 ht
    rw [h.firstGroup_data hb, show charAt (twoDone s va vb) 3 = .data vd from hd, byte3Done_eq]
    exact ⟨by simp [groupOf], rfl, nofun⟩

/-! ## A full group -/

theorem decFull_moves (hf : decFull s = .ok t) : t.dec.src = s.addr s.dec.src 4 ∧ t.dec.dst = s.addr s.dec.dst 3 := by
  obtain ⟨va, vb, vc, vd, -, -, -, -, -, rfl⟩ := decFull_ok.1 hf
  rw [byte3Done_eq]
  refine ⟨rfl, ?_⟩
  change addA s.plat.aw (addA s.plat.aw (addA s.plat.aw s.dec.dst 1) 1) 1 = _
  rw [addA_addA, addA_addA]
  rfl

/-- After a full group the text begins four characters on. -/
theorem EndsAhead.full_src (h : EndsAhead s k) (hf : decFull s = .ok t) : t.dec.src = s.dec.src + 4 :=
  (decFull_moves hf).1.trans (h.src_addr (h.four_le hf))

/-- What a full group leaves still satisfies the caller's guarantees. -/
theorem Decodable.full (h : Decodable s k) (hf : decFull s = .ok t) : Decodable t (k - 4) := by
  have hplat : t.plat = s.plat := (GroupPass.full hf).keeps.plat
  have hholds := (h.full_dst hf).2
  refine ⟨h.toEndsAhead.full hf, ?_, ?_, fun j hj hd => h.textApart (4 + j) (by omega) ?_⟩
  · rw [(h.pass (.full hf)).mem]
    exact Memory.wf_setAll _ _ _ h.wf
  · rw [(decFull_moves hf).2, hplat]
    exact addr_lt _ _ _
  · rw [← Nat.add_assoc, ← h.full_src hf]
    exact hholds _ hd

/-- A full group leaves the rest of the text. -/
theorem Decodable.full_text (h : Decodable s k) (hf : decFull s = .ok t) : decText t (k - 4) = (decText s k).drop 4 := by
  have hk := h.four_le hf
  have split : decText s k = bytesAt s.mem s.dec.src 4 ++ bytesAt s.mem (s.dec.src + 4) (k - 4) := by
    rw [← bytesAt_add, Nat.add_sub_cancel' hk, decText]
  rw [split, List.drop_left' (bytesAt_length _ _ _), decText, h.full_src hf]
  refine bytesAt_congr fun j hj => h.pass_mem (.full hf) ?_
  rw [Nat.add_assoc]
  exact h.textApart (4 + j) (by omega)

/-! ## The loop -/

/-- What `DECODE` has done with what was still to be decoded: the bytes that the text means, and their result (R101, R107). -/
structure Decoded (s t : State) (r : List Byte × Bool) : Prop where
  mem : t.mem = Memory.setAll s.plat.aw s.mem s.dec.dst r.1
  result : decResult t = some (if r.2 then .ok (s.addr s.dec.dst r.1.length) else .fail)
  idle : t.dec.busy = false

/-- A pass that ends the operation does what the whole text means. -/
theorem PassDoes.decoded {cs : List Byte} (h : PassDoes s t false (firstGroup cs)) : Decoded s t (bytesOf cs) := by
  obtain ⟨hgoes, hmem, hend⟩ := h
  obtain ⟨hres, hidle⟩ := hend rfl
  have hgoes : (firstGroup cs).2 ≠ .goesOn := fun e => nomatch hgoes.2 e
  rw [bytesOf_eq, if_neg hgoes]
  exact ⟨hmem, by simpa using hres, hidle⟩

/-- A pass that goes on, and what is then decoded, do what the whole text means. -/
theorem PassDoes.then_decoded {u : State} {cs : List Byte} (h : PassDoes s u true (firstGroup cs)) (hplat : u.plat = s.plat)
    (hlt : s.dec.dst < 2 ^ s.plat.aw) (hdst : u.dec.dst = s.addr s.dec.dst (firstGroup cs).1.length)
    (ht : Decoded u t (bytesOf (cs.drop 4))) : Decoded s t (bytesOf cs) := by
  obtain ⟨hmem, hres, hidle⟩ := ht
  rw [bytesOf_eq, if_pos (h.goes.1 rfl)]
  refine ⟨?_, ?_, hidle⟩
  · rw [Memory.setAll_append _ _ _ hlt, ← h.mem, hmem, hdst, hplat]
    rfl
  · rw [hres, hdst, State.addr, State.addr, hplat, State.addr, addA_addA, List.length_append]

/-- The loop of R85 does what the text means. -/
theorem Decodable.decodes (h : Decodable s k) (ht : decodeLoop n s = .ok t) : Decoded s t (bytesOf (decText s k)) := by
  induction n generalizing s k with
  | zero => exact nomatch ht
  | succ n ih =>
    rcases decodeLoop_succ.1 ht with hp | ⟨u, hp, ht⟩
    · exact (h.pass hp).decoded
    · have hf : decFull s = .ok u := match hp with | .full hf => hf
      have hrest := ih (h.full hf) ht
      rw [h.full_text hf] at hrest
      refine (h.pass hp).then_decoded hp.keeps.plat h.dstLt ?_ hrest
      rw [(decFull_moves hf).2, firstGroup, (groupOf_goesOn ((h.pass hp).goes.1 rfl)).2]

/-! ## Completion -/

/-- Memory behind the text, its terminator and the buffer for its bytes. -/
structure Backed (s : State) (k : Nat) : Prop where
  text : ∀ j ≤ k, CharAdmitted s j
  dst : ∀ a, (decRest s k).dst.Holds a → s.plat.admits a = true

theorem Backed.full (hw : Backed s k) (h : EndsAhead s k) (hf : decFull s = .ok t) : Backed t (k - 4) := by
  have hk := h.four_le hf
  have hplat : t.plat = s.plat := (GroupPass.full hf).keeps.plat
  refine ⟨fun j hj => ?_, fun a ha => hplat ▸ hw.dst a ((h.full_dst hf).2 a ha)⟩
  have h4 := hw.text (4 + j) (by omega)
  rw [CharAdmitted, h.src_addr (by omega)] at h4
  rw [CharAdmitted, (h.full hf).src_addr hj, h.full_src hf, hplat, Nat.add_assoc]
  exact h4

/-- The addresses of a group's three bytes are backed. -/
theorem Backed.bytes (hw : Backed s k) (h : EndsAhead s k) (hk : k ≠ 0) :
    s.plat.admits s.dec.dst = true ∧ s.plat.admits (s.addr s.dec.dst 1) = true ∧
      s.plat.admits (s.addr (s.addr s.dec.dst 1) 1) = true := by
  have hf := h.dst_add_three_le hk
  have h1 : s.addr s.dec.dst 1 = s.dec.dst + 1 := addr_of_lt (by omega)
  have h2 : s.addr (s.dec.dst + 1) 1 = s.dec.dst + 2 := addr_of_lt (by omega)
  rw [h1, h2]
  exact ⟨hw.dst _ (decRest_holds hk (by omega) (by omega)), hw.dst _ (decRest_holds hk (by omega) (by omega)),
    hw.dst _ (decRest_holds hk (by omega) (by omega))⟩

/-- A group that begins with two data characters completes. -/
theorem BeginsWith.exists_pass (hb : BeginsWith s va vb) (h : Decodable s k) (hw : Backed s k) : ∃ u b, GroupPass s u b := by
  have hk := h.two_le hb
  have a2 : CharAdmitted (twoDone s va vb) 2 := hw.text 2 hk
  have a3 (hc : charAt (twoDone s va vb) 2 ≠ .notB64) : CharAdmitted (twoDone s va vb) 3 :=
    hw.text 3 (h.lt_of_charAt hk (h.charAt_twoDone hb hk ▸ hc))
  obtain ⟨-, hw1, hw2⟩ := hw.bytes h.toEndsAhead (by omega)
  cases hc : charAt (twoDone s va vb) 2 with
  | notB64 => exact ⟨_, _, .failC (decFailC_ok.2 ⟨va, vb, hb, a2, hc, rfl⟩)⟩
  | pad =>
    have a3 := a3 (by simp [hc])
    cases hd : charAt (twoDone s va vb) 3 with
    | data vd => exact ⟨_, _, .failPD (decFailPD_ok.2 ⟨va, vb, ⟨hb, a2, hc⟩, a3, isData_iff.2 ⟨vd, hd⟩, rfl⟩)⟩
    | pad => exact ⟨_, _, .end1 (decEnd1_ok.2 ⟨va, vb, ⟨hb, a2, hc⟩, a3, isPad_iff.2 hd, rfl⟩)⟩
    | notB64 => exact ⟨_, _, .failDP (decFailDP_ok.2 ⟨va, vb, ⟨hb, a2, hc⟩, a3, isNotB64_iff.2 hd, rfl⟩)⟩
  | data vc =>
    have a3 := a3 (by simp [hc])
    cases hd : charAt (twoDone s va vb) 3 with
    | data vd => exact ⟨_, _, .full (decFull_ok.2 ⟨va, vb, vc, vd, ⟨hb, a2, hc⟩, a3, hd, hw1, hw2, rfl⟩)⟩
    | pad => exact ⟨_, _, .end2 (decEnd2_ok.2 ⟨va, vb, vc, ⟨hb, a2, hc⟩, a3, hd, hw1, rfl⟩)⟩
    | notB64 => exact ⟨_, _, .failD (decFailD_ok.2 ⟨va, vb, vc, ⟨hb, a2, hc⟩, a3, hd, rfl⟩)⟩

/-- With memory behind its buffers, a pass completes. -/
theorem Decodable.exists_pass (h : Decodable s k) (hw : Backed s k) : ∃ u b, GroupPass s u b := by
  have a0 := hw.text 0 (Nat.zero_le k)
  cases hx : isData (charAt s 0) with
  | false => exact ⟨_, _, .end0 (decEnd0_ok.2 ⟨a0, hx, rfl⟩)⟩
  | true =>
    obtain ⟨va, hva⟩ := isData_iff.1 hx
    have hk : 0 < k := h.lt_of_charAt (Nat.zero_le k) (by simp [hva])
    have a1 := hw.text 1 hk
    cases hy : isData (charAt s 1) with
    | false => exact ⟨_, _, .failB (decFailB_ok.2 ⟨va, a0, hva, a1, hy, rfl⟩)⟩
    | true =>
      obtain ⟨vb, hvb⟩ := isData_iff.1 hy
      have hb : BeginsWith s va vb := ⟨a0, hva, a1, hvb, (hw.bytes h.toEndsAhead (Nat.ne_of_gt hk)).1⟩
      exact hb.exists_pass h hw

/-- A text of `k` characters ends within `k / 4 + 1` groups (R100, R105). -/
theorem Decodable.completes (h : Decodable s k) (hw : Backed s k) (hn : k / 4 < n) : ∃ t, decodeLoop n s = .ok t := by
  induction n generalizing s k with
  | zero => exact absurd hn (Nat.not_lt_zero _)
  | succ n ih =>
    obtain ⟨u, b, hp⟩ := h.exists_pass hw
    cases b with
    | false => exact ⟨u, decodeLoop_succ.2 (.inl hp)⟩
    | true =>
      have hf : decFull s = .ok u := match hp with | .full hf => hf
      have hk := h.four_le hf
      obtain ⟨t, ht⟩ := ih (h.full hf) (hw.full h.toEndsAhead hf) (by omega)
      exact ⟨t, decodeLoop_succ.2 (.inr ⟨u, hp, ht⟩)⟩

/-- A command for a terminated string that the contract allows is latched as a text to be decoded. -/
theorem decLatch_decodable (hn : strLen s s.io.decSrc = some k) (hwf : s.mem.wf = true) (hlt : s.io.decDest < 2 ^ s.plat.aw)
    (ha : (decViews s.io.decDest s.io.decSrc k).Allowed s (encRunning s)) : Decodable (decLatch s) k := by
  refine ⟨decLatch_endsAhead hn ha, hwf, hlt, fun j hj hd => ?_⟩
  obtain ⟨-, -, hm, -⟩ := ha
  exact Span.meets_false.1 hm (s.io.decSrc + j) ⟨⟨Nat.le_add_right _ _, show s.io.decSrc + j < s.io.decSrc + (k + 1) by omega⟩, hd⟩

/-- The bytes decoded stand at `D.dst`. -/
theorem Decoded.bytes {r : List Byte × Bool} (h : Decoded s t r) (hwf : s.mem.wf = true)
    (hf : s.dec.dst + r.1.length ≤ 2 ^ s.plat.aw) : bytesAt t.mem s.dec.dst r.1.length = r.1 := by
  rw [h.mem]
  exact bytesAt_setAll hwf hf

/-- The bytes that a text means fit where the contract lets a command go. -/
theorem decoded_fits (ha : (decViews s.io.decDest s.io.decSrc k).Allowed s (encRunning s)) :
    s.io.decDest + (bytesOf (bytesAt s.mem s.io.decSrc k)).1.length ≤ 2 ^ s.plat.aw := by
  have hfd : s.io.decDest + 3 * ((k + 3) / 4) ≤ 2 ^ s.plat.aw := Span.fits_iff.1 ha.2.1
  have hlen := bytesOf_length (bytesAt s.mem s.io.decSrc k)
  rw [bytesAt_length] at hlen
  omega

end

/-- Settles O41: what is latched is a text to be decoded, the loop does what it means, and memory behind its buffers lets it end. -/
theorem decodeWritesTheBytes : Obligations.DecodeWritesTheBytes := by
  rintro s n hb hwf ⟨-, -, -, hlt, -⟩ hn ⟨ha, hsrc, hdst⟩
  have hd := decLatch_decodable hn hwf hlt ha
  have hw : Backed (decLatch s) n := by
    refine ⟨fun j hj => ?_, fun a ⟨h1, h2⟩ => hdst a h1 h2⟩
    rw [CharAdmitted, hd.src_addr hj]
    exact hsrc _ (Nat.le_add_right _ _) (Nat.add_lt_add_left (Nat.lt_succ_of_le hj) _)
  obtain ⟨t, ht⟩ := hd.completes hw (Nat.lt_succ_self _)
  have hdec : Decoded (decLatch s) t (bytesOf (bytesAt s.mem s.io.decSrc n)) := hd.decodes ht
  have hfit := decoded_fits ha
  have hnext : exec .decode s = .next t := execDecode_ok.2 (.inr ⟨hb, n, hn, ha, ht⟩)
  obtain ⟨hplat, henc, hio, halpha, hreq, hscript, hfree⟩ := execDecode_keeps hnext
  refine ⟨t, hnext, ?_, hdec.bytes hwf hfit, hdec.result, hdec.idle, ?_, fun a h => ?_, henc, hio, hplat, hreq, hscript, hfree, halpha⟩
  · have hlen := bytesOf_length (bytesAt s.mem s.io.decSrc n)
    rwa [bytesAt_length] at hlen
  · rw [hdec.mem]
    exact Memory.wf_setAll _ _ _ hwf
  · rw [hdec.mem]
    exact Memory.get_setAll_outside hfit h

end Sys2Proof.Machine
end

section
/-!
Decoding what was encoded (41_decoder.md R102): the text of some bytes means those bytes, and holds no terminator but the one behind it.
-/

namespace Sys2Proof.Machine

/-- The text of some bytes means those bytes (30_encoding.md R58, R59). -/
theorem bytesOf_textOf (bs : List Byte) : bytesOf (textOf bs) = (bs, true) := by
  induction bs using textOf.induct with
  | case1 a b c rest ih =>
    obtain ⟨h1, h2, h3⟩ := pack_slices a b c
    simp only [textOf, bytesOf, classify_alphaAt, groupOf, ih, h1, h2, h3]
    rfl
  | case2 a b =>
    obtain ⟨h1, h2, -⟩ := pack_slices a b 0#8
    simp only [textOf, bytesOf, classify_alphaAt, (classify_eq_pad PAD).2 rfl, groupOf, h1, h2]
  | case3 a =>
    obtain ⟨h1, -, -⟩ := pack_slices a 0#8 0#8
    simp only [textOf, bytesOf, classify_alphaAt, (classify_eq_pad PAD).2 rfl, groupOf, h1]
  | case4 => rfl

theorem alphaAt_ne_nul : ∀ v : Sextet, alphaAt v ≠ NUL := by decide

theorem textOf_no_nul (bs : List Byte) : NUL ∉ textOf bs := by
  have alpha (v : Sextet) : NUL ≠ alphaAt v := (alphaAt_ne_nul v).symm
  have pad : NUL ≠ PAD := by decide
  induction bs using textOf.induct with
  | case1 a b c rest ih => simp [textOf, alpha, ih]
  | case2 a b => simp [textOf, alpha, pad]
  | case3 a => simp [textOf, alpha, pad]
  | case4 => simp [textOf]

/-- A text without a terminator in it, and one behind it, is a string of its own length (20_memory.md R31). -/
theorem strLen_of_bytesAt {s : State} {a : Nat} {cs : List Byte} (hf : a + cs.length < 2 ^ s.plat.aw) (hcs : NUL ∉ cs)
    (h : bytesAt s.mem a (cs.length + 1) = cs ++ [NUL]) : strLen s a = some cs.length := by
  have at_place {j : Nat} (hj : j ≤ cs.length) : (cs ++ [NUL])[j]? = some (s.mem.get (s.addr a j)) := by
    rw [← h, bytesAt_getElem?, if_pos (Nat.lt_succ_of_le hj), addr_of_lt (by omega)]
  refine strLen_some.2 ⟨by omega, ?_, fun j hj e => hcs ?_⟩
  · have := at_place (Nat.le_refl _)
    simpa using this.symm
  · have hat := at_place (Nat.le_of_lt hj)
    rw [List.getElem?_append_left hj, e] at hat
    exact List.mem_of_getElem? hat

/-- An `ENCODE` that completes had memory behind its buffers, so it wrote the text and a terminator (40_encoder.md R76). -/
theorem execEncode_text {s t : State} (hb : s.enc.busy = false) (hwf : s.mem.wf = true) (h : exec .encode s = .next t) :
    let text := textOf (bytesAt s.mem s.io.encSrc s.io.encSize)
    s.io.encDest + text.length < 2 ^ s.plat.aw ∧ bytesAt t.mem s.io.encDest (text.length + 1) = text ++ [NUL] ∧ t.mem.wf = true := by
  intro text
  rcases execEncode_ok.1 h with ⟨hb', -⟩ | ⟨-, ha, ht⟩
  · exact absurd (hb'.symm.trans hb) (by decide)
  · have ⟨hfs, hfd, _, _⟩ := ha
    obtain ⟨hsrc, hdst⟩ := encodeWhole_admitted ht rfl ⟨Span.fits_iff.1 hfs, Span.fits_iff.1 hfd⟩
    obtain ⟨u, hu, hlen, htext, -, -, hwf', -⟩ := encodeWritesTheText s hb hwf ⟨ha, hsrc, hdst⟩
    obtain rfl : t = u := Host.Outcome.next.inj (h.symm.trans hu)
    refine ⟨?_, htext, hwf'⟩
    have hfd : s.io.encDest + (4 * ((s.io.encSize + 2) / 3) + 1) ≤ 2 ^ s.plat.aw := Span.fits_iff.1 hfd
    change s.io.encDest + (textOf (bytesAt s.mem s.io.encSrc s.io.encSize)).length < _
    omega

/-- Settles O42: the string at the destination is the text of the source bytes, which means those bytes. -/
theorem decodeOfEncodeIsTheSource : Obligations.DecodeOfEncodeIsTheSource := by
  intro s t u dest hwf _ hlt hbe hbd hs hu
  obtain ⟨hfit, htext, hwf'⟩ := execEncode_text hbe hwf hs
  obtain ⟨hplat, hdec, -⟩ := execEncode_keeps hs
  rcases execDecode_ok.1 hu with ⟨hb, -⟩ | ⟨-, n, hn, ha, hu⟩
  · exact absurd ((hb.symm.trans (congrArg DecUnit.busy hdec)).trans hbd) (by decide)
  · obtain rfl := Option.some.inj (hn.symm.trans (strLen_of_bytesAt (hplat ▸ hfit) (textOf_no_nul _) htext))
    have hcs := (List.append_inj ((bytesAt_add _ _ _ 1).symm.trans htext) (bytesAt_length _ _ _)).1
    have hdec := (decLatch_decodable hn hwf' (hplat ▸ hlt) ha).decodes hu
    have hfits := decoded_fits ha
    change Decoded _ u (bytesOf (bytesAt t.mem s.io.encDest _)) at hdec
    change dest + (bytesOf (bytesAt t.mem s.io.encDest _)).1.length ≤ _ at hfits
    rw [hcs, bytesOf_textOf] at hdec hfits
    have hres := hdec.result
    have hbytes := hdec.bytes hwf' hfits
    rw [bytesAt_length] at hres hbytes
    refine ⟨hres.trans ?_, hbytes⟩
    rw [if_pos rfl]
    exact congrArg (fun p : Platform => some (OpResult.ok (addA p.aw dest s.io.encSize))) hplat

end Sys2Proof.Machine
end

section
/-!
The one exception, `MalformedInput` (60_exceptions.md R111, R113): the five failing actions all end in taking it, and every other row but a
whole `DECODE` leaves `D.fail` at 0 where it is 0.
-/

namespace Sys2Proof.Machine

section
variable {i : Instr} {s t : State}

/-- The five failing actions (R111). -/
abbrev failingActions : List Instr := [.decFailB, .decFailC, .decFailD, .decFailDP, .decFailPD]

/-- A failing action that completes has taken the exception as its last act. -/
theorem failingAction_raises (hi : i ∈ failingActions) (h : exec i s = .next t) : ∃ u, t = raiseMalformed u := by
  simp only [List.mem_cons, List.not_mem_nil, or_false] at hi
  rcases hi with rfl | rfl | rfl | rfl | rfl <;> have hb := (whenDecBusy_next h).2.2
  · obtain ⟨_, -, -, -, -, ht⟩ := decFailB_ok.1 hb
    exact ⟨_, ht⟩
  · obtain ⟨_, _, -, -, -, ht⟩ := decFailC_ok.1 hb
    exact ⟨_, ht⟩
  · obtain ⟨_, _, _, -, -, -, ht⟩ := decFailD_ok.1 hb
    exact ⟨_, ht⟩
  · obtain ⟨_, _, -, -, -, ht⟩ := decFailDP_ok.1 hb
    exact ⟨_, ht⟩
  · obtain ⟨_, _, -, -, -, ht⟩ := decFailPD_ok.1 hb
    exact ⟨_, ht⟩

/-- `D.fail` does not go from 0 to 1. -/
def RaisesNothing (s t : State) : Prop := s.dec.fail = false → t.dec.fail = false

theorem RaisesNothing.of_eq (h : t.dec.fail = s.dec.fail) : RaisesNothing s t := h.trans

/-- An operation of the encoder leaves the decoder, and so its flag. -/
theorem EncKeeps.raisesNothing (h : EncKeeps s t) : RaisesNothing s t := .of_eq (congrArg DecUnit.fail h.dec)

/-- The rows that can raise the exception: a whole `DECODE` runs the five failing actions (R111). -/
abbrev raisingRows : List Instr := failingActions ++ [.decode]

/-- No other row raises it, `ENCODE` included (R79, R111). -/
theorem exec_raisesNothing (h : exec i s = .next t) (hi : i ∉ raisingRows) : RaisesNothing s t := by
  have hm := exec_meaning i s
  generalize exec i s = r at hm h
  cases hm with
  | encode => exact (execEncode_keeps h).raisesNothing
  | decode => exact absurd (by decide) hi
  | encStart =>
    rcases execEncStart_next h with rfl | ⟨-, -, rfl⟩
    exacts [id, (encLatch_keeps s).raisesNothing]
  | decStart =>
    rcases execDecStart_next h with rfl | ⟨-, rfl⟩
    exacts [id, fun _ => rfl]
  | encG3 => exact (encGroup_keeps (whenEncSelects_next h)).raisesNothing
  | encT2 => exact (encTail2_keeps (whenEncSelects_next h)).raisesNothing
  | encT1 => exact (encTail1_keeps (whenEncSelects_next h)).raisesNothing
  | encT0 => exact (encFinish_keeps (whenEncSelects_next h)).raisesNothing
  | decEnd0 =>
    obtain ⟨-, -, rfl⟩ := decEnd0_ok.1 (whenDecBusy_next h).2.2
    exact fun _ => rfl
  | decFailB => exact absurd (by decide) hi
  | decFailC => exact absurd (by decide) hi
  | decFailD => exact absurd (by decide) hi
  | decFailDP => exact absurd (by decide) hi
  | decFailPD => exact absurd (by decide) hi
  | decEnd1 =>
    obtain ⟨_, _, -, -, -, rfl⟩ := decEnd1_ok.1 (whenDecBusy_next h).2.2
    exact fun _ => rfl
  | decEnd2 =>
    obtain ⟨_, _, _, -, -, -, -, rfl⟩ := decEnd2_ok.1 (whenDecBusy_next h).2.2
    exact fun _ => rfl
  | decFull =>
    obtain ⟨-, -, hfail, -⟩ := decFull_keeps_control (whenDecBusy_next h).2.2
    exact .of_eq hfail
  | decFetch k =>
    obtain ⟨-, rfl⟩ := fetch_ok.1 (execDecFetch_next h).2
    exact id
  | decShift v => cases h; exact id
  | decEmit1 =>
    obtain ⟨-, rfl⟩ := emit1_ok.1 (answer_eq_next.1 h)
    exact id
  | decEmit2 =>
    obtain ⟨-, rfl⟩ := emit2_ok.1 (answer_eq_next.1 h)
    exact id
  | alpha i c => cases h; exact id
  | rlut i x => cases h; exact id

end

/-- Settles O37: the exception writes the four registers, and it is the last act of each of the five. -/
theorem malformedInputEntry : Obligations.MalformedInputEntry := by
  intro i hi s t h
  obtain ⟨u, rfl⟩ := failingAction_raises hi h
  exact ⟨rfl, rfl, rfl, rfl⟩

/-- Settles O38: a row outside the list raises nothing. -/
theorem onlyFiveActionsRaiseMalformedInput : Obligations.OnlyFiveActionsRaiseMalformedInput := by
  intro i s t h hs ht
  by_contra hi
  exact absurd ((exec_raisesNothing h hi hs).symm.trans ht) (by decide)

end Sys2Proof.Machine
end

section
/-!
A completed unit with no command on its ports (60_exceptions.md R116; 10_state.md R14, R15, R17, R18): it has no step, and the steps of the
other agents do not touch it, so that its registers, and with them its result, stay.
-/

namespace Sys2Proof.Machine

/-- A unit whose control state is legal is not busy once it is done (R14, R17). -/
theorem idle_of_done {busy done : Bool} (control : busy = true → done = false) (hd : done = true) : busy = false :=
  Bool.eq_false_of_not_eq_true fun hb => absurd ((control hb).symm.trans hd) (by decide)

section
variable {s t : State}

/-- No agent's step touches an idle decoder to which no `DECODE` is presented. -/
theorem AgentRun.keeps_idleDec (h : AgentRun s t) (hb : s.dec.busy = false) (hc : s.io.decStart = false) : t.dec = s.dec := by
  cases h with
  | host h => exact (hostStep_sameUnits h).dec
  | encAccess _ h =>
    obtain ⟨-, rfl⟩ := encAccess_ok.1 h
    exact (encAccessed_keeps s).dec
  | encStart _ h =>
    rcases execEncStart_next h with rfl | ⟨-, -, rfl⟩
    exacts [rfl, (encLatch_keeps s).dec]
  | decAccess hb' _ => exact absurd (hb'.symm.trans hb) (by decide)
  | decStart _ h =>
    cases (execDecStart_ignored (.inr hc)).symm.trans h
    rfl

/-- No agent's step touches an idle encoder to which no `ENCODE` is presented. -/
theorem AgentRun.keeps_idleEnc (h : AgentRun s t) (hb : s.enc.busy = false) (hc : s.io.encStart = false) : t.enc = s.enc := by
  cases h with
  | host h => exact (hostStep_sameUnits h).enc
  | encAccess hb' _ => exact absurd (hb'.symm.trans hb) (by decide)
  | encStart _ h =>
    cases (execEncStart_ignored (.inr hc)).symm.trans h
    rfl
  | decAccess _ h =>
    obtain ⟨-, rfl⟩ := decAccess_ok.1 h
    exact (decAccessed_keeps s).enc
  | decStart _ h =>
    rcases execDecStart_next h with rfl | ⟨-, rfl⟩
    exacts [rfl, (decLatch_keeps s).enc]

/-- With no reset and no request, a step that answers is an agent's, some free values drawn, or changes nothing. -/
theorem step_agents_next (h : step s = .next t) (hr : s.io.rst = false) (hq : s.request = []) :
    t = s ∨ ∃ k, AgentRun (s.withFreeIx k) t := by
  cases step_next h with
  | reset hr' _ => exact absurd (hr'.symm.trans hr) (by decide)
  | request i _ hq' _ => exact absurd hq hq'
  | idle _ _ ht => exact .inl ht
  | agent k _ _ ht => exact .inr ⟨k, ht⟩

end

/-- Settles O39: a completed unit is idle, and no step touches it. -/
theorem resultsAreHeld : Obligations.ResultsAreHeld := by
  intro s t hs hr hq h
  have hl := inv_iff_legal.1 hs
  rcases step_agents_next h hr hq with rfl | ⟨k, ha⟩
  · exact ⟨fun _ _ => rfl, fun _ _ => rfl⟩
  · constructor
    · intro hd hc
      have hdec : t.dec = s.dec := ha.keeps_idleDec (idle_of_done hl.dec.control hd) hc
      rw [decResult, decResult, hdec]
    · intro hd hc
      have henc : t.enc = s.enc := ha.keeps_idleEnc (idle_of_done hl.enc.control hd) hc
      rw [encResult, encResult, henc]

end Sys2Proof.Machine
end

section
/-!
The host as the only agent that can step (60_exceptions.md R119, R123; 10_state.md R22): a step is its next move, wherever that is no store to
an unadmitted address.
-/

namespace Sys2Proof.Machine

section
variable {s t : State} {m : HostMove} {rest : List HostMove}

/-- No unit has anything to do, and neither reset nor a request comes before the host. -/
def OnlyHost (s : State) : Prop :=
  s.io.rst = false ∧ s.request = [] ∧ s.enc.busy = false ∧ s.io.encStart = false ∧ s.dec.busy = false ∧ s.io.decStart = false

theorem OnlyHost.enabled (h : OnlyHost s) (hw : hasWork s .host = true) (hs : stuckAt s .host = none) : enabled s = [.host] := by
  obtain ⟨-, -, henc, hencStart, hdec, hdecStart⟩ := h
  have e1 : canStep s .host = true := by simp [canStep, hw, hs]
  have e2 : canStep s .enc = false := by simp [canStep, hasWork, henc, hencStart]
  have e3 : canStep s .dec = false := by simp [canStep, hasWork, hdec, hdecStart]
  simp [Machine.enabled, e1, e2, e3]

/-- A host that can make its next move is not stuck. -/
theorem hostMove_free (hs : s.script = m :: rest) (hm : hostMove (s.withScript rest) m = .ok t) : stuckAt s .host = none := by
  cases m with
  | driveEnc => simp [stuckAt, nextAccess, hs]
  | driveDec => simp [stuckAt, nextAccess, hs]
  | driveRst => simp [stuckAt, nextAccess, hs]
  | store a v =>
    have ha : s.plat.admits a = true := (writeByte_ok.1 hm).1
    simp [stuckAt, nextAccess, hs, ha]

/-- With nothing but the host to step, a step is the host's next move. -/
theorem OnlyHost.step_move (h : OnlyHost s) (hs : s.script = m :: rest) (hm : hostMove (s.withScript rest) m = .ok t) :
    step s = .next t := by
  have hw : hasWork s .host = true := by simp [hasWork, hs]
  have hstep : hostStep s = .ok t := by rw [hostStep, hs]; exact hm
  rw [step_eq_agents h.1 h.2.1, agentsStep_only (h.enabled hw (hostMove_free hs hm))]
  exact outcomeOf_settle.2 hstep

/-- A value of the port's width is driven as it is (R22). -/
theorem toPort_of_lt {aw v : Nat} (h : v < 2 ^ aw) : toPort aw v = v := Nat.mod_eq_of_lt h

end

/-- Settles O54, move by move. -/
theorem hostMovesActOnPortsAndMemory : Obligations.HostMovesActOnPortsAndMemory := by
  intro s m rest hr hq hs heb hes hdb hds
  have ho : OnlyHost s := ⟨hr, hq, heb, hes, hdb, hds⟩
  cases m with
  | driveEnc start dest src size =>
    intro hdest hsrc hsize
    refine ho.step_move hs ?_
    rw [hostMove, State.withScript_plat, toPort_of_lt hdest, toPort_of_lt hsrc, toPort_of_lt hsize]
    rfl
  | driveDec start dest src =>
    intro hdest hsrc
    refine ho.step_move hs ?_
    rw [hostMove, State.withScript_plat, toPort_of_lt hdest, toPort_of_lt hsrc]
    rfl
  | driveRst level => exact ho.step_move hs rfl
  | store a v => exact fun ha => ho.step_move hs (writeByte_ok.2 ⟨ha, rfl⟩)

end Sys2Proof.Machine
end

section
/-!
Two commands without effect (70_reset_and_hazards.md R132, R133; 93 U2, U11): a whole operation for a busy unit is ignored, and a whole `DECODE`
with no string to work on ends in the fault that stands for "never a result".
-/

namespace Sys2Proof.Machine

/-- Settles O45: being busy is the first of the two ways in which each row completes. -/
theorem commandToBusyUnitIsIgnored : Obligations.CommandToBusyUnitIsIgnored :=
  fun _ => ⟨fun hb => execEncode_ok.2 (.inl ⟨hb, rfl⟩), fun hb => execDecode_ok.2 (.inl ⟨hb, rfl⟩)⟩

/-- Where no string stands at the source, `DECODE` has no result (R133). -/
theorem execDecode_noString {s : State} (hb : s.dec.busy = false) (hn : strLen s s.io.decSrc = none) :
    execDecode s = .fault .unterminated := by
  simp [execDecode, hb, hn, answer]

/-- Settles O47: with no terminator at any address there is no string at the source either. -/
theorem unterminatedDecodeHasNoResult : Obligations.UnterminatedDecodeHasNoResult :=
  fun _ hb h => execDecode_noString hb (strLen_none.2 h)

end Sys2Proof.Machine
end

section
/-!
The step while `rst = 1` (70_reset_and_hazards.md R125, R126; 60_exceptions.md R114): the reset event, after which the host makes its next move
unless that is a store to an unadmitted address. Both units are as the event leaves them, since no move of the host touches a unit.
-/

namespace Sys2Proof.Machine

section
variable {s t : State}

/-! ## What the step leaves of the reset event -/

/-- The units, the platform and the request channel are those after the reset event; ports, memory and script are the host's to change. -/
structure ForcedBy (s t : State) : Prop where
  enc : t.enc = EncUnit.afterReset s.plat.aw s.freeIx
  dec : t.dec = DecUnit.afterReset s.plat.aw (s.freeIx + 5)
  plat : t.plat = s.plat
  request : t.request = []

theorem forceReset_forced (s : State) : ForcedBy s (forceReset s) := ⟨rfl, rfl, rfl, rfl⟩

/-- The host's moves leave what the reset event forces. -/
theorem ForcedBy.hostStep (h : hostStep (forceReset s) = .ok t) : ForcedBy s t := by
  rcases hostStep_ok h with rfl | ⟨m, rest, -, hm⟩
  · exact forceReset_forced s
  · rcases hostMove_ok hm with ⟨p, rfl⟩ | ⟨a, v, -, -, rfl⟩ <;> exact ⟨rfl, rfl, rfl, rfl⟩

/-- The encoder is `IDLE`, with no access in progress and no result shown (R27, R125). -/
theorem ForcedBy.encIdle (h : ForcedBy s t) :
    t.enc.busy = false ∧ t.enc.done = false ∧ t.enc.phase = .read1 ∧ encResult t = none := by
  simp [encResult, h.enc, EncUnit.afterReset]

/-- The decoder is `IDLE`, with no access in progress and no result shown (R27, R125). -/
theorem ForcedBy.decIdle (h : ForcedBy s t) :
    t.dec.busy = false ∧ t.dec.done = false ∧ t.dec.fail = false ∧ t.dec.phase = .read1 ∧ decResult t = none := by
  simp [decResult, h.dec, DecUnit.afterReset]

/-- With `rst = 1` a step answers, and both units are as the reset event leaves them (R125). -/
theorem step_forces (hr : s.io.rst = true) : ∃ t, step s = .next t ∧ ForcedBy s t := by
  obtain ⟨t, hsel, ht⟩ := resetStep_next (s := s)
  refine ⟨t, by rw [step_eq_outcomeOf, select_reset hr, hsel]; rfl, ?_⟩
  rcases ht with rfl | ht
  · exact forceReset_forced s
  · exact .hostStep ht

/-! ## Which state the step answers -/

/-- The reset event changes nothing that says whether the host can move. -/
theorem canStep_host_forceReset (s : State) : canStep (forceReset s) .host = canStep s .host := rfl

/-- A host that has no move, or is stuck at its next one, makes none in the reset event's step. -/
theorem step_reset_still (hr : s.io.rst = true) (hc : canStep s .host = false) : step s = .next (forceReset s) := by
  rw [step_eq_outcomeOf, select_reset hr, resetStep, hc]
  rfl

/-- The host's next move is made in the reset event's step, in the state that the event leaves. -/
theorem step_reset_move {m : HostMove} {rest : List HostMove} (hr : s.io.rst = true) (hs : s.script = m :: rest)
    (hm : hostMove ((forceReset s).withScript rest) m = .ok t) : step s = .next t := by
  have hs' : (forceReset s).script = m :: rest := hs
  have hc : canStep s .host = true := by
    rw [← canStep_host_forceReset, canStep, hostMove_free hs' hm]
    simp [hasWork, hs']
  have hstep : hostStep (forceReset s) = .ok t := by rw [hostStep, hs']; exact hm
  rw [step_eq_outcomeOf, select_reset hr, resetStep, if_pos hc]
  exact outcomeOf_settle.2 hstep

end

/-- Settles O55: the units by what the step forces, ports and memory by the host's next move. -/
theorem resetForcesBothUnitsIdle : Obligations.ResetForcesBothUnitsIdle := by
  intro s hr
  obtain ⟨t, ht, h⟩ := step_forces hr
  obtain ⟨hEncBusy, hEncDone, hEncPhase, hEncResult⟩ := h.encIdle
  obtain ⟨hDecBusy, hDecDone, hDecFail, hDecPhase, hDecResult⟩ := h.decIdle
  refine ⟨t, ht, hEncBusy, hEncDone, hDecBusy, hDecDone, hDecFail, hEncPhase, hDecPhase, hEncResult, hDecResult, h.plat, h.request, ?_⟩
  have answers {u} (hu : step s = .next u) : t = u := Host.Outcome.next.inj (ht.symm.trans hu)
  cases hs : s.script with
  | nil =>
    obtain rfl := answers (step_reset_still hr (by simp [canStep, hasWork, hs]))
    exact ⟨rfl, rfl, hs⟩
  | cons m rest =>
    have moved {u} := fun hm => answers (step_reset_move (t := u) hr hs hm)
    cases m with
    | driveEnc => obtain rfl := moved rfl; exact ⟨rfl, rfl, rfl⟩
    | driveDec => obtain rfl := moved rfl; exact ⟨rfl, rfl, rfl⟩
    | driveRst => obtain rfl := moved rfl; exact ⟨rfl, rfl, rfl⟩
    | store a v =>
      cases ha : s.plat.admits a with
      | true =>
        obtain rfl := moved (writeByte_ok.2 ⟨ha, rfl⟩)
        exact ⟨rfl, fun _ => ⟨rfl, rfl⟩, fun hn => nomatch ha.symm.trans hn⟩
      | false =>
        obtain rfl := answers (step_reset_still hr (by simp [canStep, hostStore_stuck hs ha]))
        exact ⟨rfl, (fun hn => nomatch ha.symm.trans hn), fun _ => ⟨rfl, hs⟩⟩

end Sys2Proof.Machine
end
